-- ==== Sys2Proof/Word.lean ====
section
/-! DEFINITION. The word types of the engine: bytes, 16-bit micro-op words and 32-bit host words
(spec/00_scope.md R7: every value is unsigned; bits are numbered from 0 at the least significant end). -/
namespace Sys2Proof

/-- `u8`: a byte on the wire, a byte of DATA, the OPND field of a micro-op. -/
abbrev Byte := BitVec 8

/-- `u16`: a micro-op word, a target register address. -/
abbrev HalfWord := BitVec 16

/-- `u32`: a host register, a host command word. -/
abbrev Word := BitVec 32

end Sys2Proof
end

