-- ==== Sys2Proof/Syntax.lean ====
section
/-! DEFINITION. The syntax of the engine's two instruction levels (one constructor per row of
spec/opcode_table.json), and what arrives at its input ports in one step (host access, conditions,
received byte, reset). -/
namespace Sys2Proof

/-- The five polled status conditions (spec/10_state.md R24, spec/30_encoding.md R103). -/
inductive Cond where
  /-- "start sent + master mode" -/
  | sbMsl
  /-- "address acknowledged" -/
  | addr
  /-- "byte transferred" -/
  | btf
  /-- "transmit-ready", the one write-side condition (spec/90_conflicts.md C6) -/
  | txr
  /-- "receive buffer not empty" -/
  | rxne
deriving DecidableEq, Repr, Inhabited

/-- One constructor per row of the opcode table: three host commands, twelve micro-ops. -/
inductive Instr where
  /-- NOP (R133); its LEN and REGADDR bits are ignored. -/
  | nop
  /-- WRITE_REG a, N (R134); LEN = 0 is checked by the meaning (R106: "then checked for LEN ≠ 0"). -/
  | writeReg (a : HalfWord) (n : Byte)
  /-- READ_REG a, N (R135); LEN = 0 is checked by the meaning. -/
  | readReg (a : HalfWord) (n : Byte)
  /-- START (R170) -/
  | start
  /-- RESTART, the repeated START (R171) -/
  | restart
  /-- STOP (R172) -/
  | stop
  /-- SEND_ADDR b (R180) -/
  | sendAddr (b : Byte)
  /-- SEND_BYTE b, D (R181): `d = true` marks a payload byte. -/
  | sendByte (d : Bool) (b : Byte)
  /-- RECV_BYTE i (R182) -/
  | recvByte (i : Byte)
  /-- CLEAR_ADDR (R183) -/
  | clearAddr
  /-- ACK_ON (R200) -/
  | ackOn
  /-- ACK_OFF (R201) -/
  | ackOff
  /-- POS_ON (R202) -/
  | posOn
  /-- POS_OFF (R203) -/
  | posOff
  /-- WAIT c (R184) -/
  | wait (c : Cond)
deriving DecidableEq, Repr

/-- The host commands; every other instruction is a micro-op (spec/30_encoding.md, the two levels). -/
def Instr.isHost : Instr → Bool
  | .nop => true
  | .writeReg _ _ => true
  | .readReg _ _ => true
  | .start => false
  | .restart => false
  | .stop => false
  | .sendAddr _ => false
  | .sendByte _ _ => false
  | .recvByte _ => false
  | .clearAddr => false
  | .ackOn => false
  | .ackOff => false
  | .posOn => false
  | .posOff => false
  | .wait _ => false

/-- An encoded instruction: a 32-bit host command word or a 16-bit micro-op word (R110). -/
inductive Code where
  | host (w : Word)
  | micro (u : HalfWord)
deriving DecidableEq, Repr

/-- The width of a host access in bytes: n ∈ {1, 2, 4} (spec/20_memory.md R71). -/
inductive Width where
  | w1
  | w2
  | w4
deriving DecidableEq, Repr, Inhabited

/-- One host access at a byte offset of the register window (spec/00_scope.md R8; log 17). -/
inductive Access where
  | read (off : Nat) (n : Width)
  | write (off : Nat) (n : Width) (v : Word)
deriving DecidableEq, Repr, Inhabited

/-- The five condition inputs as the environment drives them in one step (spec/10_state.md R24). -/
structure Conds where
  sbMsl : Bool
  addr : Bool
  btf : Bool
  txr : Bool
  rxne : Bool
deriving DecidableEq, Repr, Inhabited

/-- What arrives at the engine's input ports in one step (spec/10_state.md R22). With `rst` the step
is a reset step; else with a host access it is that access; else it is an engine step. -/
structure Input where
  rst : Bool
  host : Option Access
  conds : Conds
  rx : Byte
deriving DecidableEq, Repr, Inhabited

/-- No reset, no host access, no condition true, received byte 0. -/
def Input.idle : Input :=
  { rst := false, host := none, conds := ⟨false, false, false, false, false⟩, rx := 0#8 }

/-- An engine step in which the environment answers every condition `true` and hands over `b`. -/
def Input.ready (b : Byte) : Input :=
  { rst := false, host := none, conds := ⟨true, true, true, true, true⟩, rx := b }

/-- The host's turn, with access `a`. -/
def Input.hostTurn (a : Access) : Input := { Input.idle with host := some a }

end Sys2Proof
end

