-- ==== Sys2Proof/Config.lean ====
section
/-! DEFINITION. What an implementation fixes (spec/00_scope.md R6) and the free values: constants with
no body, so that a claim holds whatever they are. -/
namespace Sys2Proof

/-- The parameters the engine itself reads. They are configuration, not engine state (spec/10_state.md
R21); State carries one value of them that no step changes (log 4). -/
structure Params where
  /-- DEV_ADDR7, the target's 7-bit bus address: OPEN. -/
  devAddr7 : BitVec 7
  /-- WAIT_BOUND: `none` (faithful) or `some k`. -/
  waitBound : Option Nat
deriving DecidableEq, Repr

/-- R6: `some k` with k ≥ 1. -/
def Params.wf (p : Params) : Bool :=
  match p.waitBound with
  | none => true
  | some k => 1 ≤ k

/-- MAX_LEN (R6). -/
def Config.maxLen : Byte := 255#8
/-- BUF_DEPTH (R6). -/
def Config.bufDepth : Nat := 256
/-- REG_ADDR_BITS (R6). -/
def Config.regAddrBits : Nat := 16
/-- CFG_LEN (R6), an unaudited literal (spec/90_conflicts.md C3). -/
def Config.cfgLen : Nat := 106

/-- DEV_ADDR7 of the chip whose reset state is `State.reset`: OPEN (spec/92_eei_decisions.md D26). -/
opaque Config.devAddr7 : BitVec 7
/-- ENGINE_BASE in units of its 512-byte alignment: OPEN (D2, D26). -/
opaque Config.engineBlock : Nat
/-- CFG_BASE: OPEN (D26). -/
opaque Config.cfgBase : HalfWord
/-- CONFIG_TABLE: OPEN (D26). -/
opaque Config.configTable : Vector Byte Config.cfgLen

/-- ENGINE_BASE (R6): 512-byte aligned. -/
def Config.engineBase : Nat := 512 * Config.engineBlock

/-- The window offset of a platform address, where it lies at or above ENGINE_BASE (spec/20_memory.md R70). -/
def Config.offsetOf (addr : Nat) : Option Nat :=
  if Config.engineBase ≤ addr then some (addr - Config.engineBase) else none

/-- The parameters of `State.reset`: DEV_ADDR7 open, WAIT_BOUND at R6's default `none` (log 4). -/
def Config.params : Params := { devAddr7 := Config.devAddr7, waitBound := none }

/-- Free value (log 1): the input of step number `t` where no input is fixed. It draws the reset
input, whose turn it is (host access or engine step, spec/92_eei_decisions.md D4), the conditions and
the received byte (D16). -/
opaque Config.freeInput : Nat → Input

/-- Free value (log 3): draw number `d` for DATA byte `j`, never written since reset
(spec/93_implementation_defined.md IMP-3). -/
opaque Config.unwrittenByte : Nat → Nat → Byte

/-- Free value (log 5): what the platform answers in step `t` to a host read at offset `off` outside
the window (IMP-20). -/
opaque Config.platformRead : Nat → Nat → Word

end Sys2Proof
end

