-- ==== Sys2Proof/Decode.lean ====
section
/-! DEFINITION. Decoding of host command words and of micro-op words, total and rejecting by name
(spec/30_encoding.md R106-R109, spec/40_transactions.md R131), and after it the encoder, written from
the same tables (R100-R103). -/
namespace Sys2Proof

/-- Why a word is no instruction. -/
inductive DecodeError where
  /-- host word, OP = 0b11: CmdError cause 1 (R106) -/
  | rsvOp
  /-- host word, RSV ≠ 0: CmdError cause 2 (R106) -/
  | rsvBits
  /-- micro-op word, ACT ∈ {0x0, 0xD, 0xE, 0xF} (R107) -/
  | invalidAct
  /-- micro-op word, a field that must be 0 at [11:8] is not (R107) -/
  | nonzeroCond
  /-- micro-op word, OPND ≠ 0 on U0 or WAIT (R107) -/
  | nonzeroOpnd
  /-- micro-op word, WAIT with COND ∈ {0, 6..15} (R107) -/
  | invalidWaitCond
deriving DecidableEq, Repr

/-- The fields of a host command word (R100, R104). -/
def hostOp (w : Word) : BitVec 2 := w.extractLsb' 0 2
/-- RSV = w[7:2] (R100). -/
def hostRsv (w : Word) : BitVec 6 := w.extractLsb' 2 6
/-- LEN = w[15:8] (R100). -/
def hostLen (w : Word) : Byte := w.extractLsb' 8 8
/-- REGADDR = w[31:16] (R100). -/
def hostAddr (w : Word) : HalfWord := w.extractLsb' 16 16

/-- The host command word (R131), the checks in the order of R230: OP, then RSV. LEN = 0 is checked
by the command's meaning (log 9). -/
def decodeHost (w : Word) : Except DecodeError Instr :=
  if hostOp w = 3#2 then .error .rsvOp
  else if hostRsv w ≠ 0#6 then .error .rsvBits
  else if hostOp w = 0#2 then .ok .nop
  else if hostOp w = 1#2 then .ok (.writeReg (hostAddr w) (hostLen w))
  else .ok (.readReg (hostAddr w) (hostLen w))

/-- ACT = u[15:12] (R101). -/
def microAct (u : HalfWord) : BitVec 4 := u.extractLsb' 12 4
/-- COND = u[11:8] (R101). -/
def microCond (u : HalfWord) : BitVec 4 := u.extractLsb' 8 4
/-- OPND = u[7:0] (R101). -/
def microOpnd (u : HalfWord) : Byte := u.extractLsb' 0 8

/-- The condition a COND code names (R103). -/
def condOfCode (c : BitVec 4) : Option Cond :=
  if c = 1#4 then some .sbMsl
  else if c = 2#4 then some .addr
  else if c = 3#4 then some .btf
  else if c = 4#4 then some .txr
  else if c = 5#4 then some .rxne
  else none

/-- Format U0: COND = 0 and OPND = 0. -/
def decodeU0 (i : Instr) (u : HalfWord) : Except DecodeError Instr :=
  if microCond u ≠ 0#4 then .error .nonzeroCond
  else if microOpnd u ≠ 0#8 then .error .nonzeroOpnd
  else .ok i

/-- Format UB: COND = 0, a byte operand. -/
def decodeUB (mk : Byte → Instr) (u : HalfWord) : Except DecodeError Instr :=
  if microCond u ≠ 0#4 then .error .nonzeroCond else .ok (mk (microOpnd u))

/-- Format UD: D = u[8], u[11:9] = 0, a byte operand. -/
def decodeUD (u : HalfWord) : Except DecodeError Instr :=
  if u.extractLsb' 9 3 ≠ 0#3 then .error .nonzeroCond
  else .ok (.sendByte (u.getLsbD 8) (microOpnd u))

/-- Format UW: a condition code, OPND = 0. -/
def decodeUW (u : HalfWord) : Except DecodeError Instr :=
  if microOpnd u ≠ 0#8 then .error .nonzeroOpnd
  else match condOfCode (microCond u) with
    | some c => .ok (.wait c)
    | none => .error .invalidWaitCond

/-- The micro-op word (R107): every 16-bit word is exactly one micro-op or invalid. -/
def decodeMicro (u : HalfWord) : Except DecodeError Instr :=
  match (microAct u).toNat with
  | 1 => decodeU0 .start u
  | 2 => decodeU0 .restart u
  | 3 => decodeU0 .stop u
  | 4 => decodeUB .sendAddr u
  | 5 => decodeUD u
  | 6 => decodeUB .recvByte u
  | 7 => decodeU0 .clearAddr u
  | 8 => decodeU0 .ackOn u
  | 9 => decodeU0 .ackOff u
  | 10 => decodeU0 .posOn u
  | 11 => decodeU0 .posOff u
  | 12 => decodeUW u
  | _ => .error .invalidAct

/-- Both levels. -/
def decode : Code → Except DecodeError Instr
  | .host w => decodeHost w
  | .micro u => decodeMicro u

/-- The COND code of a condition (R103). -/
def Cond.code : Cond → BitVec 4
  | .sbMsl => 1#4
  | .addr => 2#4
  | .btf => 3#4
  | .txr => 4#4
  | .rxne => 5#4

/-- The word {REGADDR, LEN, RSV = 0, OP} (R100). -/
def hostWord (a : HalfWord) (n : Byte) (op : BitVec 2) : Word := a ++ n ++ 0#6 ++ op

/-- The word {ACT, COND, OPND} (R101). -/
def microWord (act cond : BitVec 4) (opnd : Byte) : HalfWord := act ++ cond ++ opnd

/-- The host command word of a command; a micro-op has none and gets 0. -/
def encodeHost : Instr → Word
  | .nop => hostWord 0#16 0#8 0#2
  | .writeReg a n => hostWord a n 1#2
  | .readReg a n => hostWord a n 2#2
  | .start => 0#32
  | .restart => 0#32
  | .stop => 0#32
  | .sendAddr _ => 0#32
  | .sendByte _ _ => 0#32
  | .recvByte _ => 0#32
  | .clearAddr => 0#32
  | .ackOn => 0#32
  | .ackOff => 0#32
  | .posOn => 0#32
  | .posOff => 0#32
  | .wait _ => 0#32

/-- The word of a micro-op (R102, R107); a host command has none and gets the invalid word 0. -/
def encodeMicro : Instr → HalfWord
  | .nop => 0#16
  | .writeReg _ _ => 0#16
  | .readReg _ _ => 0#16
  | .start => microWord 0x1#4 0#4 0#8
  | .restart => microWord 0x2#4 0#4 0#8
  | .stop => microWord 0x3#4 0#4 0#8
  | .sendAddr b => microWord 0x4#4 0#4 b
  | .sendByte d b => microWord 0x5#4 (0#3 ++ BitVec.ofBool d) b
  | .recvByte i => microWord 0x6#4 0#4 i
  | .clearAddr => microWord 0x7#4 0#4 0#8
  | .ackOn => microWord 0x8#4 0#4 0#8
  | .ackOff => microWord 0x9#4 0#4 0#8
  | .posOn => microWord 0xA#4 0#4 0#8
  | .posOff => microWord 0xB#4 0#4 0#8
  | .wait c => microWord 0xC#4 c.code 0#8

/-- The word of an instruction, at its own level. -/
def encode (i : Instr) : Code :=
  if i.isHost then .host (encodeHost i) else .micro (encodeMicro i)

/-- What the decoder reads from a row's word: a 16-bit row is a micro-op word, any other row is a
32-bit host command word whose bits above `nbits` are 0. -/
def decodeTableWord (nbits w : Nat) : Option Instr :=
  match decode (if nbits = 16 then .micro (BitVec.ofNat 16 w) else .host (BitVec.ofNat 32 w)) with
  | .ok i => some i
  | .error _ => none

/-- The assembler name of a condition (R111). -/
def Cond.asm : Cond → String
  | .sbMsl => "sb_msl"
  | .addr => "addr"
  | .btf => "btf"
  | .txr => "txr"
  | .rxne => "rxne"

/-- The assembler text of an instruction (R111 for micro-ops, R112 for commands), numbers in decimal. -/
def Instr.asm : Instr → String
  | .nop => "nop_cmd"
  | .writeReg a n => "write_reg " ++ toString a.toNat ++ ", " ++ toString n.toNat
  | .readReg a n => "read_reg " ++ toString a.toNat ++ ", " ++ toString n.toNat
  | .start => "start"
  | .restart => "restart"
  | .stop => "stop"
  | .sendAddr b => "send_addr " ++ toString b.toNat
  | .sendByte true b => "send_data " ++ toString b.toNat
  | .sendByte false b => "send_byte " ++ toString b.toNat
  | .recvByte i => "recv " ++ toString i.toNat
  | .clearAddr => "clear_addr"
  | .ackOn => "ack_on"
  | .ackOff => "ack_off"
  | .posOn => "pos_on"
  | .posOff => "pos_off"
  | .wait c => "wait " ++ c.asm

end Sys2Proof
end

