-- ==== Sys2Proof/Machine/State.lean ====
section
/-! DEFINITION. The machine's state as plain data: every field of spec/10_state.md R20, the ports of
R22, the configuration, and the model's own fields (inputs to come, draw counters, the recording
environment of spec/60_exceptions.md R236). -/
namespace Sys2Proof.Machine

/-- The abort sub-state of R20 (`abt`: 0 none, 1 abort-STOP, 2 abort-POS, 3 abort-ACK). -/
inductive Abt where
  | none
  | stop
  | posOff
  | ackOn
deriving DecidableEq, Repr

/-- One value of the action port: (act, opnd); act = 0 is "no action" (R23). -/
structure Action where
  act : BitVec 4
  opnd : Byte
deriving DecidableEq, Repr

/-- The byte-boundary record (ack_en, pos, stop_issued) of spec/43_ack_control.md R207. -/
structure ByteRecord where
  ackEn : Bool
  pos : Bool
  stopIssued : Bool
deriving DecidableEq, Repr

/-- DATA as (index, byte) cells, indices strictly rising and below 256; a byte not listed has not been
written since reset. -/
abbrev Memory := List Host.Cell

structure State where
  /-- a command is running (STATUS.BUSY) -/
  busy : Bool
  /-- the last accepted command has ended (STATUS.DONE) -/
  done : Bool
  /-- sticky: a command word was refused (STATUS.CMDERR) -/
  cmderr : Bool
  /-- sticky: a host access was refused (STATUS.HOSTERR) -/
  hosterr : Bool
  /-- sticky: a wait reached WAIT_BOUND (STATUS.TIMEOUT) -/
  timeout : Bool
  /-- cause code of the most recent error (STATUS.CAUSE) -/
  cause : BitVec 4
  /-- condition code of the wait that last timed out (STATUS.LASTTO) -/
  lastto : BitVec 4
  /-- the last accepted command word (CMD) -/
  cmd : Word
  /-- micro-PC: index of the next micro-op of the microprogram -/
  upc : BitVec 10
  /-- false polls of the current wait; stays 0 where WAIT_BOUND = none (log 8) -/
  polls : Nat
  /-- abort sub-state -/
  abt : Abt
  /-- a STOP has been emitted in the current or last session (ACKCTL.STOPPED) -/
  stopIssued : Bool
  /-- data bytes moved by the current or last command (STATUS.IDX) -/
  idx : BitVec 8
  /-- acknowledgment generation enabled (ACKCTL.ACK_EN, level output ack_en_o) -/
  ackEn : Bool
  /-- POS workaround engaged (ACKCTL.POS, level output pos_o) -/
  pos : Bool
  /-- DATA[0..255] -/
  mem : Memory
  /-- configuration: constant over a run (R21) -/
  cfg : Params
  /-- the input ports as sampled in the latest step (R22, R24, R25) -/
  inp : Input
  /-- the action port in the latest step (R23) -/
  port : Action
  /-- the answer of the latest host read -/
  rdata : Word
  /-- model's own: inputs already fixed, oldest first; beyond them `Config.freeInput` (log 1) -/
  script : List Input
  /-- model's own: steps taken, numbering the draws (log 1, 3) -/
  tick : Nat
  /-- model's own: draw number of the current session's unwritten payload bytes (log 3) -/
  pay : Nat
  /-- recording environment: actions since the last acceptance or reset, in order (log 7) -/
  actions : List Action
  /-- recording environment: one record per RECV_BYTE since the last acceptance or reset (R207) -/
  records : List ByteRecord
  /-- recording environment: the bytes handed over since the last acceptance or reset -/
  received : List Byte
deriving DecidableEq, Repr

/-- The stops that are faults. -/
inductive Fault where
  /-- Raised by the engine step when `busy = 1`, no abort runs and the microprogram has no micro-op at
  `upc` (spec/40_transactions.md R136 leaves `prog(s)` undefined there). No run reaches such a state.
  Safe: the model stops (log 10). -/
  | noMicroOp
deriving DecidableEq, Repr

/-- The stops that are refusals. -/
inductive Refusal where
  /-- Raised by an arm of `exec` whose instruction has no meaning yet; no arm does. Safe. -/
  | notModelled (mnemonic : String)
  /-- Raised by the engine step on a fetched word that is no micro-op (spec/30_encoding.md R109: "A
  model should treat that as a refusal"). No generated microprogram holds one. Safe (log 11). -/
  | invalidMicroOp (e : DecodeError)
deriving DecidableEq, Repr

/-- The machine right after reset (spec/10_state.md R20, spec/70_reset_and_hazards.md R250): every
engine field at the value R20 states, DATA with nothing listed, and the model's own fields at the
values of log 13. -/
def State.reset : State where
  busy := false
  done := false
  cmderr := false
  hosterr := false
  timeout := false
  cause := 0#4
  lastto := 0#4
  cmd := 0#32
  upc := 0#10
  polls := 0
  abt := .none
  stopIssued := false
  idx := 0#8
  ackEn := true
  pos := false
  mem := []
  cfg := Config.params
  inp := Input.idle
  port := ⟨0#4, 0#8⟩
  rdata := 0#32
  script := []
  tick := 0
  pay := 0
  actions := []
  records := []
  received := []

end Sys2Proof.Machine
end

