-- ==== Sys2Proof/Machine/Ops.lean ====
section
/-! DEFINITION. The named operations over the state: DATA, the ports, recording an error (the engine's
only "exception": spec/60_exceptions.md R224, R231), acceptance, completion, the timeout abort, reset. -/
namespace Sys2Proof.Machine

/-! ### DATA -/

/-- The byte listed at index `a`, if it has been written since reset. -/
def Memory.read : Memory → Nat → Option Byte
  | [], _ => none
  | (b, v) :: m, a => if a = b then some v else Memory.read m a

/-- Write byte `v` at index `a`, keeping the cells in rising order. -/
def Memory.write : Memory → Nat → Byte → Memory
  | [], a, v => [(a, v)]
  | (b, w) :: m, a, v =>
    if a < b then (a, v) :: (b, w) :: m
    else if a = b then (a, v) :: m
    else (b, w) :: Memory.write m a v

/-- The cells have strictly rising indices, all at or above `lo` and below 256. -/
def Memory.wfFrom : Nat → Memory → Bool
  | _, [] => true
  | lo, (a, _) :: m => decide (lo ≤ a) && decide (a < 256) && Memory.wfFrom (a + 1) m

/-- The canonical form of DATA. -/
def Memory.wf (m : Memory) : Bool := Memory.wfFrom 0 m

/-- DATA[j], where a byte not written since reset is draw `d` (spec/10_state.md R20,
spec/93_implementation_defined.md IMP-3). -/
def State.dataByte (s : State) (d j : Nat) : Byte :=
  (Memory.read s.mem j).getD (Config.unwrittenByte d j)

/-- DATA[j] as a host read sees it: an unwritten byte is a draw of this step. -/
def State.hostByte (s : State) (j : Nat) : Byte := s.dataByte s.tick j

/-- DATA[j] as the running WRITE_REG sends it: an unwritten byte is a draw of this session, so the
microprogram does not change while it runs (spec/40_transactions.md R146). -/
def State.payloadByte (s : State) (j : Nat) : Byte := s.dataByte s.pay j

/-- DATA[j] ← v. -/
def State.writeByte (s : State) (j : Nat) (v : Byte) : State :=
  { s with mem := Memory.write s.mem j v }

/-- DATA word at byte index `j`, packed little-endian (R34, spec/20_memory.md R75). -/
def State.hostDataWord (s : State) (j : Nat) : Word :=
  s.hostByte (j + 3) ++ s.hostByte (j + 2) ++ s.hostByte (j + 1) ++ s.hostByte j

/-- DATA[j + m] ← w[8m+7 : 8m] for m = 0..3 (R34). -/
def State.writeDataWord (s : State) (j : Nat) (w : Word) : State :=
  (((s.writeByte j (w.extractLsb' 0 8)).writeByte (j + 1) (w.extractLsb' 8 8)).writeByte
    (j + 2) (w.extractLsb' 16 8)).writeByte (j + 3) (w.extractLsb' 24 8)

/-! ### Ports -/

/-- The level of a condition input in this step (R24). -/
def Conds.level (c : Conds) : Cond → Bool
  | .sbMsl => c.sbMsl
  | .addr => c.addr
  | .btf => c.btf
  | .txr => c.txr
  | .rxne => c.rxne

/-- `cond(c)`: the environment's answer at this poll (spec/00_scope.md R8). -/
def State.cond (s : State) (c : Cond) : Bool := Conds.level s.inp.conds c

/-- `rx()`: the byte the environment hands over in this step (R25). -/
def State.rx (s : State) : Byte := s.inp.rx

/-- The level output `ack_en_o` (R23). -/
def State.ackEnO (s : State) : Bool := s.ackEn

/-- The level output `pos_o` (R23). -/
def State.posO (s : State) : Bool := s.pos

/-- `emit(ACT, opnd)`: present the pair on the action port (R23). The recording environment notes
every pair but "no action". -/
def State.emit (s : State) (act : BitVec 4) (opnd : Byte) : State :=
  { s with
    port := ⟨act, opnd⟩
    actions := if act = 0#4 then s.actions else s.actions ++ [⟨act, opnd⟩] }

/-- `upc ← upc + 1` (R31). -/
def State.advance (s : State) : State := { s with upc := s.upc + 1#10 }

/-- `ack_en ← b` (spec/43_ack_control.md R200, R201). -/
def State.setAckEn (s : State) (b : Bool) : State := { s with ackEn := b }

/-- `pos ← b` (R202, R203). -/
def State.setPos (s : State) (b : Bool) : State := { s with pos := b }

/-- `stop_issued ← 1` (spec/41_bus_conditions.md R172). -/
def State.markStop (s : State) : State := { s with stopIssued := true }

/-- `polls ← n` (spec/42_byte_transfer.md R184). -/
def State.setPolls (s : State) (n : Nat) : State := { s with polls := n }

/-- `abt ← a` (spec/60_exceptions.md R226). -/
def State.setAbt (s : State) (a : Abt) : State := { s with abt := a }

/-- `idx ← idx + 1` (spec/42_byte_transfer.md R181, R182). -/
def State.countByte (s : State) : State := { s with idx := s.idx + 1#8 }

/-- The byte-boundary record of R207, and the byte handed over. -/
def State.noteReceive (s : State) : State :=
  { s with
    records := s.records ++ [⟨s.ackEn, s.pos, s.stopIssued⟩]
    received := s.received ++ [s.rx] }

/-- The answer of a host read. -/
def State.setRdata (s : State) (w : Word) : State := { s with rdata := w }

/-- The next input: the oldest fixed one, else a free draw (log 1). -/
def State.nextInput (s : State) : Input :=
  match s.script with
  | [] => Config.freeInput s.tick
  | i :: _ => i

/-- Sample the input ports at the start of a step; the action port shows "no action" until the step
emits one (R23). -/
def State.sample (s : State) : State :=
  { s with
    inp := s.nextInput
    script := s.script.tail
    tick := s.tick + 1
    port := ⟨0#4, 0#8⟩ }

/-! ### Errors: recorded, never a transfer of control -/

/-- `raise HostError(c)` (spec/60_exceptions.md R222, R223). -/
def State.hostError (s : State) (c : BitVec 4) : State :=
  { s with hosterr := true, cause := c }

/-- `raise CmdError(c)` (R221). -/
def State.cmdError (s : State) (c : BitVec 4) : State :=
  { s with cmderr := true, cause := c }

/-! ### Sessions -/

/-- `accept(s, w)` (spec/40_transactions.md R132); the recording environment starts afresh. -/
def State.accept (s : State) (w : Word) : State :=
  { s with
    cmd := w
    busy := true
    done := false
    upc := 0#10
    abt := .none
    polls := 0
    idx := 0#8
    stopIssued := false
    pay := s.tick
    actions := []
    records := []
    received := [] }

/-- `complete(s)` (R149). -/
def State.complete (s : State) : State :=
  { s with busy := false, done := true, upc := 0#10, polls := 0 }

/-- `abort_begin(s, c)` (spec/60_exceptions.md R225). -/
def State.abortBegin (s : State) (c : BitVec 4) : State :=
  { s with
    cause := 7#4
    lastto := c
    polls := 0
    abt := if s.stopIssued then .posOff else .stop }

/-- `abort_complete(s)` (R227). -/
def State.abortComplete (s : State) : State :=
  { s with timeout := true, busy := false, done := true, upc := 0#10 }

/-- `abort_step(s)` (R226): STOP if none was issued, POS_OFF, ACK_ON; none of them waits. -/
def State.abortStep (s : State) : State :=
  match s.abt with
  | .none => s
  | .stop => (s.emit 0x3#4 0#8).markStop.setAbt .posOff
  | .posOff => ((s.emit 0xB#4 0#8).setPos false).setAbt .ackOn
  | .ackOn => (((s.emit 0x8#4 0#8).setAckEn true).setAbt .none).abortComplete

/-! ### Reset -/

/-- A step with `rst` asserted (spec/70_reset_and_hazards.md R250, R251): every engine field to its
reset value, DATA forgotten, no action. The configuration, the inputs to come and the answer of the
last host read are not the engine's. -/
def State.applyReset (s : State) : State :=
  { s with
    busy := false
    done := false
    cmderr := false
    hosterr := false
    timeout := false
    cause := 0#4
    lastto := 0#4
    cmd := 0#32
    upc := 0#10
    polls := 0
    abt := .none
    stopIssued := false
    idx := 0#8
    ackEn := true
    pos := false
    mem := []
    port := ⟨0#4, 0#8⟩
    actions := []
    records := []
    received := [] }

end Sys2Proof.Machine
end

