-- ==== Sys2Proof/Machine/Operands.lean ====
section
/-! DEFINITION. Operand assembly (spec/30_encoding.md R104, R105; spec/42_byte_transfer.md R185, R186). -/
namespace Sys2Proof.Machine

/-- AW = (DEV_ADDR7 << 1) | 0, the addressing byte of the write direction (R185; log 15). -/
def addrWrite (p : Params) : Byte := p.devAddr7.setWidth 8 <<< 1

/-- AR = AW | 1, the addressing byte of the read direction (R185). -/
def addrRead (p : Params) : Byte := addrWrite p ||| 1#8

/-- The register-address byte sent first (R186; spec/20_memory.md R73: big-endian on the wire). -/
def regHi (a : HalfWord) : Byte := a.extractLsb' 8 8

/-- The register-address byte sent second (R186). -/
def regLo (a : HalfWord) : Byte := a.extractLsb' 0 8

/-- OP of the running command (spec/40_transactions.md R136). -/
def State.cmdOp (s : State) : BitVec 2 := hostOp s.cmd

/-- N of the running command: a byte count, unscaled (R104). -/
def State.cmdLen (s : State) : Nat := (hostLen s.cmd).toNat

/-- a of the running command: a register address, unscaled (R104). -/
def State.cmdAddr (s : State) : HalfWord := hostAddr s.cmd

/-- The payload [DATA[0], ..., DATA[N-1]] (R136). -/
def State.payload (s : State) : List Byte := (List.range s.cmdLen).map s.payloadByte

end Sys2Proof.Machine
end

