-- ==== Sys2Proof/Machine/Microprogram.lean ====
section
/-! DEFINITION. The microprograms (spec/40_transactions.md R136-R143), their landmarks (R144), the
fetch of a micro-op word, the session phase (R147) and the wait condition (spec/10_state.md R30). -/
namespace Sys2Proof.Machine

/-- The 9 micro-ops every command begins with (R137). -/
def progHead (p : Params) (a : HalfWord) : List Instr :=
  [.start, .wait .sbMsl, .sendAddr (addrWrite p), .wait .addr, .clearAddr,
   .sendByte false (regHi a), .wait .txr, .sendByte false (regLo a), .wait .txr]

/-- One payload byte and its wait (R138). -/
def sendData (b : Byte) : List Instr := [.sendByte true b, .wait .txr]

/-- The write microprogram (R138). -/
def writeProg (p : Params) (a : HalfWord) (bs : List Byte) : List Instr :=
  progHead p a ++ bs.flatMap sendData ++ [.stop]

/-- The pre-arm `arm(N)` (R140). N = 0 is never accepted. -/
def arm : Nat → List Instr
  | 0 => []
  | 1 => [.ackOff]
  | 2 => [.posOn]
  | _ + 3 => []

/-- `step(i)` of the N ≥ 3 data phase (R143). -/
def readStep (n i : Nat) : List Instr :=
  if i + 2 < n then [.wait .btf, .recvByte (BitVec.ofNat 8 i)]
  else if i + 2 = n then [.ackOff, .wait .btf, .recvByte (BitVec.ofNat 8 i)]
  else [.stop, .wait .rxne, .recvByte (BitVec.ofNat 8 i)]

/-- The data phase `data(N)`: the normative three-way branch (R141, R142, R143, R145). N = 0 is never
accepted. -/
def readData : Nat → List Instr
  | 0 => []
  | 1 => [.wait .rxne, .recvByte 0#8, .stop]
  | 2 => [.ackOff, .wait .btf, .recvByte 0#8, .stop, .wait .rxne, .recvByte 1#8, .posOff]
  | n + 3 => (List.range (n + 3)).flatMap (readStep (n + 3))

/-- The read microprogram (R139). -/
def readProg (p : Params) (a : HalfWord) (n : Nat) : List Instr :=
  progHead p a ++ [.restart, .wait .sbMsl, .sendAddr (addrRead p)] ++ arm n ++
    [.wait .addr, .clearAddr] ++ readData n ++ [.ackOn]

/-- `prog(s)` (R136); undefined, here empty, for a command word no accept leaves (log 10). -/
def State.prog (s : State) : List Instr :=
  if s.cmdOp = 1#2 then writeProg s.cfg s.cmdAddr s.payload
  else if s.cmdOp = 2#2 then readProg s.cfg s.cmdAddr s.cmdLen
  else []

/-- `prog(s)` as the micro-op words the engine fetches (R136). -/
def State.progWords (s : State) : List HalfWord := s.prog.map encodeMicro

/-- The micro-op word at `upc`, if there is one. -/
def State.fetch (s : State) : Option HalfWord := s.progWords[s.upc.toNat]?

/-- Index d where the data phase starts (R144). -/
def State.dataStart (s : State) : Nat :=
  if s.cmdOp = 1#2 then 9
  else match s.cmdLen with
    | 1 => 15
    | 2 => 15
    | _ => 14

/-- Index t of the STOP (R144). -/
def State.stopIndex (s : State) : Nat :=
  if s.cmdOp = 1#2 then 2 * s.cmdLen + 9
  else match s.cmdLen with
    | 1 => 17
    | 2 => 18
    | n => 2 * n + 13

/-- The Bus Session phases (R147). -/
inductive Phase where
  | idle
  | addressing
  | regSel
  | data
  | stopPending
deriving DecidableEq, Repr

/-- The PHASE codes; 5-7 are never produced (R147). -/
def phaseCode : Phase → BitVec 3
  | .idle => 0#3
  | .addressing => 1#3
  | .regSel => 2#3
  | .data => 3#3
  | .stopPending => 4#3

/-- `phase(s)` (R147). -/
def State.phase (s : State) : Phase :=
  if s.busy = false then .idle
  else if s.abt ≠ .none then .stopPending
  else if s.stopIndex ≤ s.upc.toNat then .stopPending
  else if s.upc.toNat < 5 then .addressing
  else if s.upc.toNat < 9 then .regSel
  else if s.cmdOp = 1#2 then .data
  else if s.upc.toNat < s.dataStart then .addressing
  else .data

/-- `waitcond(s)` (R30): the code of the wait the engine stands at, else 0. -/
def State.waitcond (s : State) : BitVec 4 :=
  if s.busy = true ∧ s.abt = .none then
    match s.prog[s.upc.toNat]? with
    | some (.wait c) => c.code
    | _ => 0#4
  else 0#4

end Sys2Proof.Machine
end

