-- ==== Sys2Proof/Machine/Flags.lean ====
section
/-! DEFINITION. The host-visible status registers and the write-1-to-clear of the sticky flags
(spec/10_state.md R29, R32, R33, R36). -/
namespace Sys2Proof.Machine

/-- What a read of STATUS returns (R29). -/
def State.statusWord (s : State) : Word :=
  s.cause ++ s.lastto ++ s.idx ++ s.waitcond ++ 0#1 ++ phaseCode s.phase ++ 0#3 ++
    BitVec.ofBool s.timeout ++ BitVec.ofBool s.hosterr ++ BitVec.ofBool s.cmderr ++
    BitVec.ofBool s.done ++ BitVec.ofBool s.busy

/-- What a read of ACKCTL returns (R32). -/
def State.ackctlWord (s : State) : Word :=
  0#29 ++ BitVec.ofBool s.stopIssued ++ BitVec.ofBool s.pos ++ BitVec.ofBool s.ackEn

/-- What a read of INFO returns (R33). -/
def State.infoWord (s : State) : Word :=
  0#15 ++ BitVec.ofBool s.cfg.waitBound.isSome ++ Config.maxLen ++ 0#1 ++ s.cfg.devAddr7

/-- A write of `w` to STATUS: bits 1-4 clear their flag where written 1 (R29). -/
def State.statusWrite (s : State) (w : Word) : State :=
  { s with
    done := s.done && !w.getLsbD 1
    cmderr := s.cmderr && !w.getLsbD 2
    hosterr := s.hosterr && !w.getLsbD 3
    timeout := s.timeout && !w.getLsbD 4 }

end Sys2Proof.Machine
end

