-- ==== Sys2Proof/Machine/AckControl.lean ====
section
/-! DEFINITION. ACK_ON, ACK_OFF, POS_ON, POS_OFF (spec/43_ack_control.md R200-R203). -/
namespace Sys2Proof.Machine

/-- ACK_ON (R200). -/
def execAckOn (s : State) : Host.Outcome State Fault Refusal :=
  .next ((s.emit 0x8#4 0#8).setAckEn true).advance

/-- ACK_OFF (R201). -/
def execAckOff (s : State) : Host.Outcome State Fault Refusal :=
  .next ((s.emit 0x9#4 0#8).setAckEn false).advance

/-- POS_ON (R202). -/
def execPosOn (s : State) : Host.Outcome State Fault Refusal :=
  .next ((s.emit 0xA#4 0#8).setPos true).advance

/-- POS_OFF (R203). -/
def execPosOff (s : State) : Host.Outcome State Fault Refusal :=
  .next ((s.emit 0xB#4 0#8).setPos false).advance

end Sys2Proof.Machine
end

