-- ==== Sys2Proof/Machine/BusConditions.lean ====
section
/-! DEFINITION. START, RESTART, STOP (spec/41_bus_conditions.md R170-R172). -/
namespace Sys2Proof.Machine

/-- START (R170). -/
def execStart (s : State) : Host.Outcome State Fault Refusal :=
  .next (s.emit 0x1#4 0#8).advance

/-- RESTART (R171); `stop_issued` is untouched: no STOP intervenes. -/
def execRestart (s : State) : Host.Outcome State Fault Refusal :=
  .next (s.emit 0x2#4 0#8).advance

/-- STOP (R172). -/
def execStop (s : State) : Host.Outcome State Fault Refusal :=
  .next (s.emit 0x3#4 0#8).markStop.advance

end Sys2Proof.Machine
end

