-- ==== Sys2Proof/Machine/ByteTransfer.lean ====
section
/-! DEFINITION. SEND_ADDR, SEND_BYTE, RECV_BYTE, CLEAR_ADDR, WAIT (spec/42_byte_transfer.md R180-R184). -/
namespace Sys2Proof.Machine

/-- SEND_ADDR b (R180). -/
def execSendAddr (b : Byte) (s : State) : Host.Outcome State Fault Refusal :=
  .next (s.emit 0x4#4 b).advance

/-- SEND_BYTE b, D (R181): only a payload byte counts in `idx`. -/
def execSendByte (d : Bool) (b : Byte) (s : State) : Host.Outcome State Fault Refusal :=
  .next (if d then (s.emit 0x5#4 b).countByte.advance else (s.emit 0x5#4 b).advance)

/-- RECV_BYTE i (R182): DATA[i] ← rx(), `idx` counts, and the port shows operand 0 (R23). The
byte-boundary record of R207 is taken here. -/
def execRecvByte (i : Byte) (s : State) : Host.Outcome State Fault Refusal :=
  .next (((s.writeByte i.toNat s.rx).countByte.noteReceive).emit 0x6#4 0#8).advance

/-- CLEAR_ADDR (R183). -/
def execClearAddr (s : State) : Host.Outcome State Fault Refusal :=
  .next (s.emit 0x7#4 0#8).advance

/-- WAIT c, one poll (R184): it presents no action; a true answer moves on, a false one counts towards
WAIT_BOUND, and where there is none nothing changes (the hang of R228). -/
def execWait (c : Cond) (s : State) : Host.Outcome State Fault Refusal :=
  .next (
    if s.cond c then ((s.emit 0x0#4 0#8).setPolls 0).advance
    else match s.cfg.waitBound with
      | none => s.emit 0x0#4 0#8
      | some k =>
        if s.polls + 1 = k then ((s.emit 0x0#4 0#8).setPolls (s.polls + 1)).abortBegin c.code
        else (s.emit 0x0#4 0#8).setPolls (s.polls + 1))

end Sys2Proof.Machine
end

