-- ==== Sys2Proof/Machine/Commands.lean ====
section
/-! DEFINITION. The host commands NOP, WRITE_REG and READ_REG (spec/40_transactions.md R130-R135): the
meaning of one admitted host write of the command's word to CMD. -/
namespace Sys2Proof.Machine

/-- What WRITE_REG and READ_REG share: busy (cause 4) comes before LEN = 0 (cause 3), and otherwise
the word is accepted (R130, R131; spec/60_exceptions.md R230). -/
def State.issueTransfer (s : State) (n : Byte) (w : Word) : State :=
  if s.busy then s.hostError 4#4
  else if n = 0#8 then s.cmdError 3#4
  else s.accept w

/-- NOP (R133): no state change; a NOP written while busy is a refused host write. -/
def execNop (s : State) : Host.Outcome State Fault Refusal :=
  .next (if s.busy then s.hostError 4#4 else s)

/-- WRITE_REG a, N (R134). -/
def execWriteReg (a : HalfWord) (n : Byte) (s : State) : Host.Outcome State Fault Refusal :=
  .next (s.issueTransfer n (hostWord a n 1#2))

/-- READ_REG a, N (R135). -/
def execReadReg (a : HalfWord) (n : Byte) (s : State) : Host.Outcome State Fault Refusal :=
  .next (s.issueTransfer n (hostWord a n 2#2))

end Sys2Proof.Machine
end

