-- ==== Sys2Proof/Machine/Dispatch.lean ====
section
/-! DEFINITION. One arm per instruction, each one call of its meaning. -/
namespace Sys2Proof.Machine

def exec (i : Instr) (s : State) : Host.Outcome State Fault Refusal :=
  match i with
  | .nop => Sys2Proof.Machine.execNop s
  | .writeReg a n => Sys2Proof.Machine.execWriteReg a n s
  | .readReg a n => Sys2Proof.Machine.execReadReg a n s
  | .start => Sys2Proof.Machine.execStart s
  | .restart => Sys2Proof.Machine.execRestart s
  | .stop => Sys2Proof.Machine.execStop s
  | .sendAddr b => Sys2Proof.Machine.execSendAddr b s
  | .sendByte d b => Sys2Proof.Machine.execSendByte d b s
  | .recvByte j => Sys2Proof.Machine.execRecvByte j s
  | .clearAddr => Sys2Proof.Machine.execClearAddr s
  | .ackOn => Sys2Proof.Machine.execAckOn s
  | .ackOff => Sys2Proof.Machine.execAckOff s
  | .posOn => Sys2Proof.Machine.execPosOn s
  | .posOff => Sys2Proof.Machine.execPosOff s
  | .wait c => Sys2Proof.Machine.execWait c s

end Sys2Proof.Machine
end

