-- ==== Sys2Proof/Machine/HostPort.lean ====
section
/-! DEFINITION. One host access to the register window (spec/10_state.md R27-R35, spec/20_memory.md
R71, spec/40_transactions.md R130, spec/60_exceptions.md R222, R223, R230). -/
namespace Sys2Proof.Machine

/-- Inside the 512-byte window; the engine does not decode anything else (R71; log 5). -/
def inWindow (off : Nat) : Bool := decide (off < 0x200)

/-- Width 4 and a multiple of 4 (R71). -/
def aligned4 (off : Nat) (n : Width) : Bool := decide (n = .w4) && decide (off % 4 = 0)

/-- The CmdError cause of a refused command word (R131, R220). The decoder of host words answers only
the first two names. -/
def cmdCause : DecodeError → BitVec 4
  | .rsvOp => 1#4
  | .rsvBits => 2#4
  | .invalidAct => 1#4
  | .nonzeroCond => 1#4
  | .nonzeroOpnd => 1#4
  | .invalidWaitCond => 1#4

/-- `issue(s, w)` (R130): busy first (cause 4, which each command's own meaning records), then the
decode refusals, then the command. -/
def issue (w : Word) (s : State) : Host.Outcome State Fault Refusal :=
  match decode (.host w) with
  | .ok i => exec i s
  | .error e => .next (if s.busy then s.hostError 4#4 else s.cmdError (cmdCause e))

/-- The register at an admitted offset (R27-R35). -/
def State.regRead (s : State) (off : Nat) : Word :=
  if off = 0x000 then s.cmd
  else if off = 0x004 then s.statusWord
  else if off = 0x008 then s.ackctlWord
  else if off = 0x00C then s.infoWord
  else if off < 0x100 then 0#32
  else s.hostDataWord (off - 0x100)

/-- `HostRead(off, n)`: no side effect on the engine, but that a malformed read records HostError 6
and returns 0 (R35, R71). -/
def hostRead (off : Nat) (n : Width) (s : State) : State :=
  if inWindow off = false then s.setRdata (Config.platformRead s.tick off)
  else if aligned4 off n = false then (s.hostError 6#4).setRdata 0#32
  else s.setRdata (s.regRead off)

/-- A write to a DATA word: refused while busy (R34, R222). -/
def hostDataWrite (off : Nat) (v : Word) (s : State) : State :=
  if s.busy then s.hostError 5#4 else s.writeDataWord (off - 0x100) v

/-- `HostWrite(off, n, v)`: CMD issues, STATUS clears, ACKCTL, INFO and the reserved offsets ignore it
(R35), DATA stores. -/
def hostWrite (off : Nat) (n : Width) (v : Word) (s : State) : Host.Outcome State Fault Refusal :=
  if inWindow off = false then .next s
  else if aligned4 off n = false then .next (s.hostError 6#4)
  else if off = 0x000 then issue v s
  else if off = 0x004 then .next (s.statusWrite v)
  else if off < 0x100 then .next s
  else .next (hostDataWrite off v s)

/-- One host access. -/
def hostAccess (a : Access) (s : State) : Host.Outcome State Fault Refusal :=
  match a with
  | .read off n => .next (hostRead off n s)
  | .write off n v => hostWrite off n v s

/-- A host access while `rst` is asserted (spec/70_reset_and_hazards.md R252), on the state the reset
left: writes are ignored, reads return reset values and record nothing (log 6). -/
def hostAccessInReset (a : Access) (s : State) : State :=
  match a with
  | .write _ _ _ => s
  | .read off n =>
    if inWindow off = false then s.setRdata (Config.platformRead s.tick off)
    else if aligned4 off n = false then s.setRdata 0#32
    else s.setRdata (s.regRead off)

end Sys2Proof.Machine
end

