-- ==== Sys2Proof/Machine/Engine.lean ====
section
/-! DEFINITION. The engine step (spec/40_transactions.md R148, R149), and one step of the whole system
after the input ports are sampled. -/
namespace Sys2Proof.Machine

/-- Completion in the same step as the microprogram's last micro-op (R148, R149). -/
def State.retire (s : State) : State :=
  if s.busy = true ∧ s.abt = .none ∧ s.upc.toNat = s.prog.length then s.complete else s

/-- Fetch, decode and execute the micro-op at `upc`, then complete if it was the last. -/
def runMicroOp (s : State) : Host.Outcome State Fault Refusal :=
  match s.fetch with
  | none => .fault .noMicroOp
  | some u =>
    match decode (.micro u) with
    | .error e => .refused (.invalidMicroOp e)
    | .ok i =>
      match exec i s with
      | .next t => .next t.retire
      | .fault f => .fault f
      | .refused r => .refused r

/-- `engine_step(s)` (R148). -/
def engineStep (s : State) : Host.Outcome State Fault Refusal :=
  if s.busy = false then .next (s.emit 0x0#4 0#8)
  else if s.abt ≠ .none then .next s.abortStep
  else runMicroOp s

/-- A step with `rst` asserted (spec/70_reset_and_hazards.md R250-R252). -/
def resetStep (s : State) : State :=
  match s.inp.host with
  | none => s.applyReset
  | some a => hostAccessInReset a s.applyReset

/-- One step, the input ports sampled: reset, else the host's access, else the engine's step
(spec/20_memory.md R72: the two never coincide). -/
def cycle (s : State) : Host.Outcome State Fault Refusal :=
  if s.inp.rst then .next (resetStep s)
  else match s.inp.host with
    | some a => hostAccess a s
    | none => engineStep s

/-! ### Placing a micro-op where the next step fetches it

The engine does not fetch from memory: its program is generated from CMD, DATA and DEV_ADDR7 (R136).
So a micro-op is placed by choosing a running command whose microprogram holds it (log 12). -/

/-- The command word and the index at which a generated microprogram holds the micro-op. -/
def placement : Instr → Option (Word × Nat)
  | .nop => none
  | .writeReg _ _ => none
  | .readReg _ _ => none
  | .start => some (hostWord 0#16 1#8 1#2, 0)
  | .restart => some (hostWord 0#16 1#8 2#2, 9)
  | .stop => some (hostWord 0#16 1#8 1#2, 11)
  | .sendAddr b => if b.getLsbD 0 then some (hostWord 0#16 1#8 2#2, 11) else some (hostWord 0#16 1#8 1#2, 2)
  | .sendByte true _ => some (hostWord 0#16 1#8 1#2, 9)
  | .sendByte false b => some (hostWord (b ++ 0#8) 1#8 1#2, 5)
  | .recvByte i =>
    match i.toNat with
    | 0 => some (hostWord 0#16 1#8 2#2, 16)
    | 1 => some (hostWord 0#16 2#8 2#2, 20)
    | n => if n = 255 then none else some (hostWord 0#16 (i + 1#8) 2#2, 2 * n + 17)
  | .clearAddr => some (hostWord 0#16 1#8 1#2, 4)
  | .ackOn => some (hostWord 0#16 1#8 2#2, 18)
  | .ackOff => some (hostWord 0#16 1#8 2#2, 12)
  | .posOn => some (hostWord 0#16 2#8 2#2, 12)
  | .posOff => some (hostWord 0#16 2#8 2#2, 21)
  | .wait .sbMsl => some (hostWord 0#16 1#8 1#2, 1)
  | .wait .addr => some (hostWord 0#16 1#8 1#2, 3)
  | .wait .btf => some (hostWord 0#16 2#8 2#2, 16)
  | .wait .txr => some (hostWord 0#16 1#8 1#2, 6)
  | .wait .rxne => some (hostWord 0#16 1#8 2#2, 15)

/-- DEV_ADDR7 and DATA[0] where the micro-op's operand comes from them. -/
def placeOperand (i : Instr) (s : State) : State :=
  match i with
  | .sendAddr b => { s with cfg := { s.cfg with devAddr7 := b.extractLsb' 1 7 } }
  | .sendByte true b => s.writeByte 0 b
  | _ => s

/-- A running command that stands at the micro-op, and an engine step as the next input, in which
every condition is true. -/
def placeMicro (i : Instr) (s : State) : State :=
  match placement i with
  | none => s
  | some (w, j) =>
    { placeOperand i s with
      busy := true
      abt := .none
      cmd := w
      upc := BitVec.ofNat 10 j
      script := Input.ready 0#8 :: s.script }

/-- The host's write of `w` to CMD as the next input. -/
def placeHost (w : Word) (s : State) : State :=
  { s with script := Input.hostTurn (.write 0x000 .w4 w) :: s.script }

/-- Where the next step finds a table row's word: a 16-bit row is a micro-op, any other row a host
command word. A 16-bit word that no microprogram holds leaves the state as it is. -/
def placeTableWord (nbits w : Nat) (s : State) : State :=
  if nbits = 16 then
    match decodeTableWord nbits w with
    | some i => placeMicro i s
    | none => s
  else placeHost (BitVec.ofNat 32 w) s

end Sys2Proof.Machine
end

