-- ==== Sys2Proof/Machine/Step.lean ====
section
/-! DEFINITION. One step of the machine. -/
namespace Sys2Proof.Machine

/-- Sample the input ports, then take the step they call for. -/
def step (s : State) : Host.Outcome State Fault Refusal := cycle s.sample

/-- `s` with a table row's word placed where the very next step runs it (log 12). -/
def State.withFetchWord (s : State) (nbits w : Nat) : State := placeTableWord nbits w s

end Sys2Proof.Machine
end

