-- ==== Sys2Proof/Machine/HostAsm.lean ====
section
/-! DEFINITION. The host's register-access statements, the two pseudo-instructions and the boot order
(spec/30_encoding.md R112; spec/70_reset_and_hazards.md R256, R258). The host's own instruction set is
not specified; a statement says which access it makes and when it is finished. -/
namespace Sys2Proof.Machine

/-- `hw <off>, <value>`, `hr <off>`, `poll <off>, <mask>, <value>` (R112). -/
inductive HostStmt where
  | hw (off : Nat) (v : Word)
  | hr (off : Nat)
  | poll (off : Nat) (mask value : Word)
deriving DecidableEq, Repr

/-- The one access a statement makes; `poll` repeats it. -/
def hostStmtAccess : HostStmt → Access
  | .hw off v => .write off .w4 v
  | .hr off => .read off .w4
  | .poll off _ _ => .read off .w4

/-- Whether the statement is finished after an access that answered `r`. -/
def hostStmtFinished : HostStmt → Word → Bool
  | .hw _ _, _ => true
  | .hr _, _ => true
  | .poll _ mask value, r => r &&& mask == value

/-- Word `k` of a byte list, little-endian, bytes past the end as 0 (R112). -/
def packWord (bs : List Byte) (k : Nat) : Word :=
  bs.getD (4 * k + 3) 0#8 ++ bs.getD (4 * k + 2) 0#8 ++ bs.getD (4 * k + 1) 0#8 ++ bs.getD (4 * k) 0#8

/-- The DATA writes of `write_register`: words 0 .. ⌈n/4⌉-1. -/
def payloadWrites (bs : List Byte) : List HostStmt :=
  (List.range ((bs.length + 3) / 4)).map fun k => .hw (0x100 + 4 * k) (packWord bs k)

/-- `write_register a, [b0, ..., b(n-1)]` (R112). -/
def writeRegister (a : HalfWord) (bs : List Byte) : List HostStmt :=
  payloadWrites bs ++
    [.hw 0x000 (hostWord a (BitVec.ofNat 8 bs.length) 1#2), .poll 0x004 0x1#32 0x0#32]

/-- `read_register a, n` (R112): the last statements read the result words. -/
def readRegister (a : HalfWord) (n : Byte) : List HostStmt :=
  [.hw 0x000 (hostWord a n 2#2), .poll 0x004 0x1#32 0x0#32] ++
    (List.range ((n.toNat + 3) / 4)).map fun k => .hr (0x100 + 4 * k)

/-- Steps 3 to 6 of the boot order (R258): clear the sticky bits, write the configuration table once,
wait, read STATUS. -/
def bootStmts : List HostStmt :=
  [.hw 0x004 0x1E#32] ++ writeRegister Config.cfgBase Config.configTable.toList ++ [.hr 0x004]

/-- Run host accesses back to back, with no step of the engine between them. -/
def runAccesses : List Access → State → Host.Outcome State Fault Refusal
  | [], s => .next s
  | a :: as, s =>
    match hostAccess a s with
    | .next t => runAccesses as t
    | .fault f => .fault f
    | .refused r => .refused r

/-- The accesses of `write_register a, bs` up to the issue of the command. -/
def writeRegisterAccesses (a : HalfWord) (bs : List Byte) : List Access :=
  (payloadWrites bs).map hostStmtAccess ++
    [.write 0x000 .w4 (hostWord a (BitVec.ofNat 8 bs.length) 1#2)]

end Sys2Proof.Machine
end

