-- ==== Sys2Proof/Machine/Wire.lean ====
section
/-! DEFINITION. The wire of a session, the environment assumption EA-CONFORM as a premise about it
(spec/92_eei_decisions.md D21; spec/40_transactions.md R151, spec/43_ack_control.md R209), the
transactions of R151, and the reference test device of D30. The engine cannot see the wire, and the
machine's step uses nothing of this file (log 14). -/
namespace Sys2Proof.Machine

/-- Events on the wire (R151): `S`, `Sr`, `P`, a byte the master transmits with the device's answer,
and a byte the device transmits with the master's. `ack` is true for ACK and false for NACK. -/
inductive WireEvent where
  | s
  | sr
  | p
  | w (b : Byte) (ack : Bool)
  | r (b : Byte) (ack : Bool)
deriving DecidableEq, Repr

/-- What the bus carries, the acknowledgment bits left out. -/
inductive BusEvent where
  | s
  | sr
  | p
  | w (b : Byte)
  | r (b : Byte)
deriving DecidableEq, Repr

/-- A wire event without its acknowledgment bit. -/
def WireEvent.bus : WireEvent → BusEvent
  | .s => .s
  | .sr => .sr
  | .p => .p
  | .w b _ => .w b
  | .r b _ => .r b

/-- The device's answer to a byte the master transmits. -/
def WireEvent.deviceAck : WireEvent → Option Bool
  | .s => none
  | .sr => none
  | .p => none
  | .w _ ack => some ack
  | .r _ _ => none

/-- The master's answer to a byte the device transmits. -/
def WireEvent.masterAck : WireEvent → Option Bool
  | .s => none
  | .sr => none
  | .p => none
  | .w _ _ => none
  | .r _ ack => some ack

/-- The master's answers to the received bytes, in order. -/
def masterAcks (wire : List WireEvent) : List Bool := wire.filterMap WireEvent.masterAck

/-- RECV_BYTE on the port (spec/10_state.md R23). -/
def isRecv (a : Action) : Bool := a.act == 0x6#4

/-- STOP on the port. -/
def isStop (a : Action) : Bool := a.act == 0x3#4

/-- The device is addressed for a READ transaction: SEND_ADDR with direction bit 1. -/
def isReadAddress (a : Action) : Bool := a.act == 0x4#4 && a.opnd.getLsbD 0

/-- Each action carried out in order, up to the STOP condition: START, RESTART, each transmitted byte,
and at each RECV_BYTE the next byte that was handed over. -/
def carriedOut : List Action → List Byte → List BusEvent
  | [], _ => []
  | a :: as, bs =>
    match a.act.toNat with
    | 1 => .s :: carriedOut as bs
    | 2 => .sr :: carriedOut as bs
    | 4 => .w a.opnd :: carriedOut as bs
    | 5 => .w a.opnd :: carriedOut as bs
    | 6 =>
      match bs with
      | [] => carriedOut as []
      | b :: bs => .r b :: carriedOut as bs
    | _ => carriedOut as bs

/-- The controls of a READ_REG of `n` bytes as R206 places them: the action codes from the read
address's acknowledgment to the last RECV_BYTE. -/
def readControls : Nat → List (BitVec 4)
  | 0 => []
  | 1 => [0x9#4, 0x7#4, 0x6#4]
  | 2 => [0xA#4, 0x7#4, 0x9#4, 0x6#4, 0x3#4, 0x6#4]
  | n + 3 => [0x7#4] ++ List.replicate (n + 1) 0x6#4 ++ [0x9#4, 0x6#4, 0x3#4, 0x6#4]

/-- A list up to its last RECV_BYTE code. -/
def upToLastRecv : List (BitVec 4) → List (BitVec 4)
  | [] => []
  | c :: cs =>
    match upToLastRecv cs with
    | [] => if c = 0x6#4 then [c] else []
    | d :: ds => c :: d :: ds

/-- The controls of a session's actions: the codes after RESTART and its addressing byte, up to the
last byte taken. -/
def controlTrace (acts : List Action) : List (BitVec 4) :=
  upToLastRecv (((acts.map Action.act).dropWhile (· != 0x2#4)).drop 2)

/-- EA-CONFORM (D21) for a session of a command of `n` bytes, its actions, the bytes handed over at
its RECV_BYTEs, and the wire. It is the premise of every claim about the wire, and a peripheral may
violate it; without it the wire is any list of events. Its clause "conditions eventually become true"
is about the inputs, and a claim that needs it takes it as a premise on them (`isReadyTurn`). -/
structure EaConform (n : Nat) (acts : List Action) (bytes : List Byte) (wire : List WireEvent) :
    Prop where
  /-- The peripheral carries out each action in order, and the STOP condition comes after the byte in
  reception when STOP was requested (spec/41_bus_conditions.md R172). A device addressed for a read
  may have sent bytes that a session which aborted never took. -/
  carried : ∃ late : List Byte, (late ≠ [] → acts.any isReadAddress = true) ∧
    wire.map WireEvent.bus =
      carriedOut acts bytes ++ late.map .r ++ (if acts.any isStop = true then [.p] else [])
  /-- The device ACKs every byte the master sends. -/
  deviceAcks : ∀ a, a ∈ wire.filterMap WireEvent.deviceAck → a = true
  /-- Under the controls of R206 the peripheral ACKs received bytes 0..n-2 and NACKs byte n-1. -/
  readAcks : controlTrace acts <+: readControls n →
    (masterAcks wire).take bytes.length = (List.range bytes.length).map fun i => decide (i + 1 < n)
  /-- A NACK ends the device's sending (spec/43_ack_control.md R204, R209). -/
  nackEnds : ∀ i, (masterAcks wire)[i]? = some false → (masterAcks wire).length = i + 1

/-- The transaction of WRITE_REG (R151), every byte acknowledged. -/
def writeWire (p : Params) (a : HalfWord) (bs : List Byte) : List WireEvent :=
  [.s, .w (addrWrite p) true, .w (regHi a) true, .w (regLo a) true] ++ bs.map (.w · true) ++ [.p]

/-- The transaction of READ_REG (R151): every byte acknowledged but the last one received. -/
def readWire (p : Params) (a : HalfWord) (ds : List Byte) : List WireEvent :=
  [.s, .w (addrWrite p) true, .w (regHi a) true, .w (regLo a) true, .sr, .w (addrRead p) true] ++
    ds.mapIdx (fun i d => .r d (decide (i + 1 < ds.length))) ++ [.p]

/-- Where the reference device stands in a session. -/
inductive DevPhase where
  | idle
  | addressed
  | regHi
  | regLo (hi : Byte)
  | writing
  | reading
deriving DecidableEq, Repr

/-- The reference test device (D30): 2^16 byte registers and a pointer. -/
structure RefDevice where
  regs : Vector Byte (2 ^ 16)
  ptr : HalfWord
  phase : DevPhase

/-- One wire event at the reference device; `none` where the event is no run of it. It ACKs every
byte it is sent, its pointer advances by 1 per data byte, modulo 2^16. -/
def refDeviceStep (d : RefDevice) : WireEvent → Option RefDevice
  | .s => some { d with phase := .addressed }
  | .sr => some { d with phase := .addressed }
  | .p => some { d with phase := .idle }
  | .w _ false => none
  | .w b true =>
    match d.phase with
    | .addressed => some { d with phase := if b.getLsbD 0 then .reading else .regHi }
    | .regHi => some { d with phase := .regLo b }
    | .regLo hi => some { d with ptr := hi ++ b, phase := .writing }
    | .writing => some { d with regs := d.regs.set d.ptr.toNat b d.ptr.isLt, ptr := d.ptr + 1#16 }
    | .idle => none
    | .reading => none
  | .r b _ =>
    match d.phase with
    | .reading =>
      if d.regs[d.ptr.toNat]'d.ptr.isLt = b then some { d with ptr := d.ptr + 1#16 } else none
    | .idle => none
    | .addressed => none
    | .regHi => none
    | .regLo _ => none
    | .writing => none

/-- A sequence of wire events at the reference device. -/
def refDeviceRun (d : RefDevice) : List WireEvent → Option RefDevice
  | [] => some d
  | e :: es =>
    match refDeviceStep d e with
    | some d' => refDeviceRun d' es
    | none => none

end Sys2Proof.Machine
end

