-- ==== Sys2Proof/WellFormed.lean ====
section
/-! DEFINITION. Which instructions are well formed: the operand ranges of spec/opcode_table.json. -/
namespace Sys2Proof

/-- LEN is 1..255 (spec/30_encoding.md R100) and a RECV_BYTE index is 0..254 (spec/42_byte_transfer.md
R182). A WAIT condition is in 1..5 by its type (R184). The machine gives ill-formed terms a meaning
too (log 9, 16); only well-formed ones are accepted as commands or generated as micro-ops. -/
def Instr.wf : Instr → Bool
  | .nop => true
  | .writeReg _ n => n != 0#8
  | .readReg _ n => n != 0#8
  | .start => true
  | .restart => true
  | .stop => true
  | .sendAddr _ => true
  | .sendByte _ _ => true
  | .recvByte i => i != 255#8
  | .clearAddr => true
  | .ackOn => true
  | .ackOff => true
  | .posOn => true
  | .posOff => true
  | .wait _ => true

end Sys2Proof
end

