-- ==== Sys2Proof/Safety.lean ====
section
/-! DEFINITION. The terms claims use: the recorder of spec/43_ack_control.md R207, the invariant of the
machine, and runs of several steps. -/
namespace Sys2Proof.Machine

/-- What a recording environment tracks from the action port alone (R207). -/
structure Recorder where
  ackEn : Bool
  pos : Bool
  stopIssued : Bool
  records : List ByteRecord
deriving DecidableEq, Repr

/-- At the start of a session: acknowledgment on, POS off, no STOP. -/
def Recorder.init : Recorder := ⟨true, false, false, []⟩

/-- The recorder at one action: ACK_ON/ACK_OFF, POS_ON/POS_OFF and STOP set the triple, RECV_BYTE
records it. -/
def recorderStep (r : Recorder) (a : Action) : Recorder :=
  match a.act.toNat with
  | 3 => { r with stopIssued := true }
  | 6 => { r with records := r.records ++ [⟨r.ackEn, r.pos, r.stopIssued⟩] }
  | 8 => { r with ackEn := true }
  | 9 => { r with ackEn := false }
  | 10 => { r with pos := true }
  | 11 => { r with pos := false }
  | _ => r

/-- The recorder after a session's actions. -/
def recorderOf (acts : List Action) : Recorder := acts.foldl recorderStep Recorder.init

/-- The pair a micro-op presents on the action port, if it presents one (spec/10_state.md R23). -/
def portAction : Instr → Option Action
  | .nop => none
  | .writeReg _ _ => none
  | .readReg _ _ => none
  | .start => some ⟨0x1#4, 0#8⟩
  | .restart => some ⟨0x2#4, 0#8⟩
  | .stop => some ⟨0x3#4, 0#8⟩
  | .sendAddr b => some ⟨0x4#4, b⟩
  | .sendByte _ b => some ⟨0x5#4, b⟩
  | .recvByte _ => some ⟨0x6#4, 0#8⟩
  | .clearAddr => some ⟨0x7#4, 0#8⟩
  | .ackOn => some ⟨0x8#4, 0#8⟩
  | .ackOff => some ⟨0x9#4, 0#8⟩
  | .posOn => some ⟨0xA#4, 0#8⟩
  | .posOff => some ⟨0xB#4, 0#8⟩
  | .wait _ => none

/-- The micro-ops that move a data byte (spec/42_byte_transfer.md R187). -/
def isDataOp : Instr → Bool
  | .nop => false
  | .writeReg _ _ => false
  | .readReg _ _ => false
  | .start => false
  | .restart => false
  | .stop => false
  | .sendAddr _ => false
  | .sendByte d _ => d
  | .recvByte _ => true
  | .clearAddr => false
  | .ackOn => false
  | .ackOff => false
  | .posOn => false
  | .posOff => false
  | .wait _ => false

/-- The micro-ops of the running microprogram that are behind `upc`. -/
def State.past (s : State) : List Instr := s.prog.take s.upc.toNat

/-- The machine's invariant: true at reset and kept by every step. -/
structure Inv (s : State) : Prop where
  /-- DATA is in canonical form. -/
  memWf : Memory.wf s.mem = true
  /-- WAIT_BOUND is none or some k with k ≥ 1 (R6). -/
  cfgWf : s.cfg.wf = true
  /-- spec/10_state.md R37. -/
  idle : s.busy = false → s.upc = 0#10 ∧ s.abt = .none ∧ s.polls = 0 ∧ s.ackEn = true ∧ s.pos = false
  /-- A running command is one that `issue` accepts (R131). -/
  command : s.busy = true → (s.cmdOp = 1#2 ∨ s.cmdOp = 2#2) ∧ hostRsv s.cmd = 0#6 ∧ 1 ≤ s.cmdLen
  /-- While no abort runs, `upc` points at a micro-op (R31). -/
  running : s.busy = true → s.abt = .none → s.upc.toNat < s.prog.length
  /-- The actions of the session are those of the micro-ops behind `upc`, in order (R81). -/
  progress : s.busy = true → s.abt = .none → s.actions = s.past.filterMap portAction
  /-- `idx` counts the data bytes moved (R187). -/
  counted : s.busy = true → s.abt = .none → s.idx.toNat = s.past.countP isDataOp
  /-- The engine's controls are what a recorder rebuilds from the port (R207). -/
  controls : recorderOf s.actions = ⟨s.ackEn, s.pos, s.stopIssued, s.records⟩
  /-- At most one STOP per session, and `stop_issued` says whether it was emitted. -/
  oneStop : s.actions.countP isStop = s.stopIssued.toNat
  /-- False polls stay below WAIT_BOUND (R184, R187). -/
  pollBound : match s.cfg.waitBound with | none => s.polls = 0 | some k => s.polls < k
  /-- An abort runs only inside a session; its sub-states (R226). -/
  abortTail : s.abt ≠ .none → s.busy = true ∧ s.polls = 0 ∧ s.cfg.waitBound.isSome = true
  abortStop : s.abt = .stop → s.stopIssued = false
  abortPos : s.abt = .posOff → s.stopIssued = true
  abortAck : s.abt = .ackOn → s.stopIssued = true ∧ s.pos = false
  /-- Causes 8-15 are never recorded (spec/60_exceptions.md R220). -/
  causes : s.cause.toNat ≤ 7
  /-- LASTTO is 0 or a condition code. -/
  lastWait : s.lastto.toNat ≤ 5
  /-- With WAIT_BOUND = none nothing times out (R220). -/
  faithful : s.cfg.waitBound = none → s.timeout = false ∧ s.cause ≠ 7#4 ∧ s.lastto = 0#4
  /-- A READ_REG has stored every byte handed over at its index (R182). -/
  stored : s.busy = true → s.cmdOp = 2#2 →
    s.received.length = s.idx.toNat ∧
      ∀ i, i < s.received.length → Memory.read s.mem i = s.received[i]?
  /-- The acknowledgment controls of a READ_REG stand where R206 places them, in an abort too. -/
  placed : s.busy = true → s.cmdOp = 2#2 → controlTrace s.actions <+: readControls s.cmdLen
  /-- One record per byte handed over. -/
  recorded : s.records.length = s.received.length

/-- `n` steps. -/
def runSteps : Nat → State → Host.Outcome State Fault Refusal
  | 0, s => .next s
  | n + 1, s =>
    match step s with
    | .next t => runSteps n t
    | .fault f => .fault f
    | .refused r => .refused r

/-- An input that gives the engine its step. -/
def isEngineTurn (i : Input) : Prop := i.rst = false ∧ i.host = none

/-- An engine step in which the environment answers every condition `true`. -/
def isReadyTurn (i : Input) : Prop :=
  i.rst = false ∧ i.host = none ∧ i.conds = ⟨true, true, true, true, true⟩

/-- The records a READ_REG of `n` bytes produces (spec/43_ack_control.md R208). -/
def expectedRecords : Nat → List ByteRecord
  | 0 => []
  | 1 => [⟨false, false, false⟩]
  | 2 => [⟨false, true, false⟩, ⟨false, true, true⟩]
  | n + 3 => List.replicate (n + 1) ⟨true, false, false⟩ ++ [⟨false, false, false⟩, ⟨false, false, true⟩]

end Sys2Proof.Machine
end

