-- ==== Sys2Proof/Certificates/Slice0/Obligations.lean ====
section
/-! DEFINITION. The statements for the provers, from the numbered rules of spec/. -/

open Sys2Proof Sys2Proof.Machine

/-! ### Encoding -/

/-- Decoding undoes encoding on every instruction; where each word has one meaning (micro-ops,
WRITE_REG, READ_REG) encoding undoes decoding too. A NOP's LEN and REGADDR bits are ignored (R133). -/
def Obligations.DecodeInvertsEncode : Prop :=
  (∀ i : Instr, decode (encode i) = .ok i) ∧
  (∀ (u : HalfWord) (i : Instr), decode (.micro u) = .ok i → encode i = .micro u) ∧
  (∀ (w : Word) (i : Instr), decode (.host w) = .ok i → i ≠ .nop → encode i = .host w)

/-- R107: the mask and match of every micro-op, and nothing else decodes. -/
def Obligations.MicroOpsMatchTheirPatterns : Prop :=
  ∀ u : HalfWord,
    (decode (.micro u) = .ok .start ↔ u &&& 0xFFFF#16 = 0x1000#16) ∧
    (decode (.micro u) = .ok .restart ↔ u &&& 0xFFFF#16 = 0x2000#16) ∧
    (decode (.micro u) = .ok .stop ↔ u &&& 0xFFFF#16 = 0x3000#16) ∧
    (∀ b, decode (.micro u) = .ok (.sendAddr b) ↔ u &&& 0xFF00#16 = 0x4000#16 ∧ b = u.setWidth 8) ∧
    (∀ d b, decode (.micro u) = .ok (.sendByte d b) ↔
      u &&& 0xFE00#16 = 0x5000#16 ∧ d = u.getLsbD 8 ∧ b = u.setWidth 8) ∧
    (∀ i, decode (.micro u) = .ok (.recvByte i) ↔ u &&& 0xFF00#16 = 0x6000#16 ∧ i = u.setWidth 8) ∧
    (decode (.micro u) = .ok .clearAddr ↔ u &&& 0xFFFF#16 = 0x7000#16) ∧
    (decode (.micro u) = .ok .ackOn ↔ u &&& 0xFFFF#16 = 0x8000#16) ∧
    (decode (.micro u) = .ok .ackOff ↔ u &&& 0xFFFF#16 = 0x9000#16) ∧
    (decode (.micro u) = .ok .posOn ↔ u &&& 0xFFFF#16 = 0xA000#16) ∧
    (decode (.micro u) = .ok .posOff ↔ u &&& 0xFFFF#16 = 0xB000#16) ∧
    (∀ c, decode (.micro u) = .ok (.wait c) ↔ u &&& 0xF0FF#16 = 0xC000#16 ∧
      u.extractLsb' 8 4 = (match c with | .sbMsl => 1#4 | .addr => 2#4 | .btf => 3#4 | .txr => 4#4 | .rxne => 5#4)) ∧
    (∀ i, decode (.micro u) = .ok i → i.isHost = false)

/-- Words written out from the encoding tables decode to their instructions, and words the tables
leave out are refused by name. -/
def Obligations.SampleWordsDecode : Prop :=
  decode (.host 0xFFFFFF00#32) = .ok .nop ∧
  decode (.host 0x12340101#32) = .ok (.writeReg 0x1234#16 1#8) ∧
  decode (.host 0x0000FF02#32) = .ok (.readReg 0x0000#16 255#8) ∧
  decode (.host 0x000000FF#32) = .error .rsvOp ∧
  decode (.host 0x12340005#32) = .error .rsvBits ∧
  decode (.micro 0x3000#16) = .ok .stop ∧
  decode (.micro 0x40BA#16) = .ok (.sendAddr 0xBA#8) ∧
  decode (.micro 0x51AB#16) = .ok (.sendByte true 0xAB#8) ∧
  decode (.micro 0x60FE#16) = .ok (.recvByte 254#8) ∧
  decode (.micro 0xC500#16) = .ok (.wait .rxne) ∧
  decode (.micro 0xC600#16) = .error .invalidWaitCond ∧
  decode (.micro 0x52AB#16) = .error .nonzeroCond ∧
  decode (.micro 0xFFFF#16) = .error .invalidAct

/-! ### What a step is -/

/-- An engine step whose fetched word decodes to `i` runs `exec i` on the state with its ports
sampled, and completes the command where that was the last micro-op (R148, R149). -/
def Obligations.StepRunsTheFetchedMicroOp : Prop :=
  ∀ (s : State) (u : HalfWord) (i : Instr),
    isEngineTurn s.nextInput → s.busy = true → s.abt = .none → s.fetch = some u →
    decode (.micro u) = .ok i →
    step s = (match exec i s.sample with
      | .next t => .next t.retire
      | .fault f => .fault f
      | .refused r => .refused r)

/-- A host write of a command's word to CMD runs `exec` of that command in the same step (R130). -/
def Obligations.StepRunsTheIssuedCommand : Prop :=
  ∀ (s : State) (w : Word) (i : Instr),
    s.nextInput.rst = false → s.nextInput.host = some (.write 0x000 .w4 w) →
    decode (.host w) = .ok i → step s = exec i s.sample

/-- With `busy = 0` an engine step changes nothing but the sampled ports (R148, R239). -/
def Obligations.IdleStepChangesNothing : Prop :=
  ∀ s : State, isEngineTurn s.nextInput → s.busy = false → step s = .next s.sample

/-- Every step keeps the configuration, uses one input and counts one step. -/
def Obligations.StepKeepsConfiguration : Prop :=
  ∀ s t : State, step s = .next t →
    t.cfg = s.cfg ∧ t.inp = s.nextInput ∧ t.script = s.script.tail ∧ t.tick = s.tick + 1

/-- An engine step appends to the action trace exactly the pair on the port, nothing where the port
shows no action; a host access presents no action (R23, R148). -/
def Obligations.StepEmitsAtMostOneAction : Prop :=
  ∀ s t : State, step s = .next t →
    (isEngineTurn s.nextInput →
      t.actions = s.actions ++ (if t.port.act = 0#4 then [] else [t.port])) ∧
    (s.nextInput.host ≠ none ∨ s.nextInput.rst = true → t.port = ⟨0#4, 0#8⟩)

/-! ### Host commands -/

/-- NOP, WRITE_REG and READ_REG complete on an idle engine: a NOP changes nothing, the other two open
a session (R132-R135). -/
def Obligations.CommandsOnIdleEngine : Prop :=
  ∀ (s : State) (a : HalfWord) (n : Byte), s.busy = false →
    exec .nop s = .next s ∧
    (n ≠ 0#8 →
      exec (.writeReg a n) s = .next { s with
        cmd := a ++ n ++ 0x01#8, busy := true, done := false, upc := 0#10, abt := .none, polls := 0,
        idx := 0#8, stopIssued := false, pay := s.tick, actions := [], records := [], received := [] } ∧
      exec (.readReg a n) s = .next { s with
        cmd := a ++ n ++ 0x02#8, busy := true, done := false, upc := 0#10, abt := .none, polls := 0,
        idx := 0#8, stopIssued := false, pay := s.tick, actions := [], records := [], received := [] })

/-- The three commands turned away: busy (cause 4) before LEN = 0 (cause 3). -/
def Obligations.CommandsTurnedAway : Prop :=
  ∀ (s : State) (a : HalfWord) (n : Byte),
    (s.busy = true →
      exec .nop s = .next { s with hosterr := true, cause := 4#4 } ∧
      exec (.writeReg a n) s = .next { s with hosterr := true, cause := 4#4 } ∧
      exec (.readReg a n) s = .next { s with hosterr := true, cause := 4#4 }) ∧
    (s.busy = false →
      exec (.writeReg a 0#8) s = .next { s with cmderr := true, cause := 3#4 } ∧
      exec (.readReg a 0#8) s = .next { s with cmderr := true, cause := 3#4 })

/-- R131, R221: an admitted write of any word to CMD, decided in the order of R230. -/
def Obligations.CommandIssueDecides : Prop :=
  ∀ (s : State) (w : Word),
    hostAccess (.write 0x000 .w4 w) s = .next (
      if s.busy = true then { s with hosterr := true, cause := 4#4 }
      else if w.extractLsb' 0 2 = 0b11#2 then { s with cmderr := true, cause := 1#4 }
      else if w.extractLsb' 2 6 ≠ 0#6 then { s with cmderr := true, cause := 2#4 }
      else if w.extractLsb' 0 2 = 0b00#2 then s
      else if w.extractLsb' 8 8 = 0#8 then { s with cmderr := true, cause := 3#4 }
      else { s with
        cmd := w, busy := true, done := false, upc := 0#10, abt := .none, polls := 0,
        idx := 0#8, stopIssued := false, pay := s.tick, actions := [], records := [], received := [] })

/-- What a command leaves unchanged. -/
def Obligations.CommandFrame : Prop :=
  ∀ (i : Instr) (s t : State), i.isHost = true → exec i s = .next t →
    t.timeout = s.timeout ∧ t.lastto = s.lastto ∧ t.ackEn = s.ackEn ∧ t.pos = s.pos ∧
    t.cfg = s.cfg ∧ t.inp = s.inp ∧ t.port = s.port ∧ t.rdata = s.rdata ∧ t.script = s.script ∧
    t.tick = s.tick ∧
    (∀ j, Memory.read t.mem j = Memory.read s.mem j) ∧
    (t.cmd = s.cmd ∨ t.cmd = encodeHost i) ∧
    (s.busy = true → t.cmd = s.cmd ∧ t.busy = true ∧ t.done = s.done ∧ t.cmderr = s.cmderr ∧
      t.upc = s.upc ∧ t.polls = s.polls ∧ t.abt = s.abt ∧ t.stopIssued = s.stopIssued ∧
      t.idx = s.idx ∧ t.pay = s.pay ∧ t.actions = s.actions ∧ t.records = s.records ∧
      t.received = s.received) ∧
    (s.busy = false → t.hosterr = s.hosterr) ∧
    (t.busy ≠ s.busy → t.cmderr = s.cmderr ∧ t.cause = s.cause)

/-! ### Micro-ops -/

/-- START, RESTART, STOP (R170-R172). -/
def Obligations.BusConditionResults : Prop :=
  ∀ s : State,
    exec .start s = .next { s with
      port := ⟨0x1#4, 0#8⟩, actions := s.actions ++ [⟨0x1#4, 0#8⟩], upc := s.upc + 1#10 } ∧
    exec .restart s = .next { s with
      port := ⟨0x2#4, 0#8⟩, actions := s.actions ++ [⟨0x2#4, 0#8⟩], upc := s.upc + 1#10 } ∧
    exec .stop s = .next { s with
      port := ⟨0x3#4, 0#8⟩, actions := s.actions ++ [⟨0x3#4, 0#8⟩], stopIssued := true,
      upc := s.upc + 1#10 }

/-- SEND_ADDR, SEND_BYTE, CLEAR_ADDR (R180, R181, R183). -/
def Obligations.SendResults : Prop :=
  ∀ (s : State) (b : Byte),
    exec (.sendAddr b) s = .next { s with
      port := ⟨0x4#4, b⟩, actions := s.actions ++ [⟨0x4#4, b⟩], upc := s.upc + 1#10 } ∧
    exec (.sendByte false b) s = .next { s with
      port := ⟨0x5#4, b⟩, actions := s.actions ++ [⟨0x5#4, b⟩], upc := s.upc + 1#10 } ∧
    exec (.sendByte true b) s = .next { s with
      port := ⟨0x5#4, b⟩, actions := s.actions ++ [⟨0x5#4, b⟩], idx := s.idx + 1#8,
      upc := s.upc + 1#10 } ∧
    exec .clearAddr s = .next { s with
      port := ⟨0x7#4, 0#8⟩, actions := s.actions ++ [⟨0x7#4, 0#8⟩], upc := s.upc + 1#10 }

/-- RECV_BYTE (R182, R207; at index 255 it is the model's reading, log 16): the byte handed over is in DATA[i] and in no other place, `idx` counts, the
port shows operand 0, and the byte-boundary record is taken. -/
def Obligations.ReceiveResult : Prop :=
  ∀ (s : State) (i : Byte), ∃ m : Memory,
    exec (.recvByte i) s = .next { s with
      mem := m, idx := s.idx + 1#8, port := ⟨0x6#4, 0#8⟩, actions := s.actions ++ [⟨0x6#4, 0#8⟩],
      upc := s.upc + 1#10, records := s.records ++ [⟨s.ackEn, s.pos, s.stopIssued⟩],
      received := s.received ++ [s.inp.rx] } ∧
    Memory.read m i.toNat = some s.inp.rx ∧
    (∀ j, j ≠ i.toNat → Memory.read m j = Memory.read s.mem j) ∧
    (Memory.wf s.mem = true → Memory.wf m = true)

/-- ACK_ON, ACK_OFF, POS_ON, POS_OFF (R200-R203). -/
def Obligations.AckControlResults : Prop :=
  ∀ s : State,
    exec .ackOn s = .next { s with
      ackEn := true, port := ⟨0x8#4, 0#8⟩, actions := s.actions ++ [⟨0x8#4, 0#8⟩], upc := s.upc + 1#10 } ∧
    exec .ackOff s = .next { s with
      ackEn := false, port := ⟨0x9#4, 0#8⟩, actions := s.actions ++ [⟨0x9#4, 0#8⟩], upc := s.upc + 1#10 } ∧
    exec .posOn s = .next { s with
      pos := true, port := ⟨0xA#4, 0#8⟩, actions := s.actions ++ [⟨0xA#4, 0#8⟩], upc := s.upc + 1#10 } ∧
    exec .posOff s = .next { s with
      pos := false, port := ⟨0xB#4, 0#8⟩, actions := s.actions ++ [⟨0xB#4, 0#8⟩], upc := s.upc + 1#10 }

/-- WAIT, one poll (R184), for every answer and every WAIT_BOUND. -/
def Obligations.WaitResult : Prop :=
  ∀ (s : State) (c : Cond),
    (s.cond c = true → exec (.wait c) s = .next { s with
      port := ⟨0#4, 0#8⟩, polls := 0, upc := s.upc + 1#10 }) ∧
    (s.cond c = false → s.cfg.waitBound = none →
      exec (.wait c) s = .next { s with port := ⟨0#4, 0#8⟩ }) ∧
    (∀ k, s.cond c = false → s.cfg.waitBound = some k → s.polls + 1 ≠ k →
      exec (.wait c) s = .next { s with port := ⟨0#4, 0#8⟩, polls := s.polls + 1 }) ∧
    (∀ k, s.cond c = false → s.cfg.waitBound = some k → s.polls + 1 = k →
      exec (.wait c) s = .next { s with
        port := ⟨0#4, 0#8⟩, cause := 7#4, lastto := c.code, polls := 0,
        abt := if s.stopIssued = true then .posOff else .stop })

/-- What a micro-op leaves unchanged. -/
def Obligations.MicroOpFrame : Prop :=
  ∀ (i : Instr) (s t : State), i.isHost = false → exec i s = .next t →
    t.busy = s.busy ∧ t.done = s.done ∧ t.cmderr = s.cmderr ∧ t.hosterr = s.hosterr ∧
    t.timeout = s.timeout ∧ t.cmd = s.cmd ∧ t.cfg = s.cfg ∧ t.inp = s.inp ∧ t.rdata = s.rdata ∧
    t.script = s.script ∧ t.tick = s.tick ∧ t.pay = s.pay ∧
    (i ≠ .stop → t.stopIssued = s.stopIssued) ∧
    ((∀ b, i ≠ .sendByte true b) → (∀ j, i ≠ .recvByte j) → t.idx = s.idx) ∧
    (i ≠ .ackOn → i ≠ .ackOff → t.ackEn = s.ackEn) ∧
    (i ≠ .posOn → i ≠ .posOff → t.pos = s.pos) ∧
    ((∀ c, i ≠ .wait c) → t.cause = s.cause ∧ t.lastto = s.lastto ∧ t.polls = s.polls ∧
      t.abt = s.abt ∧ t.upc = s.upc + 1#10) ∧
    ((∀ j, i ≠ .recvByte j) → t.records = s.records ∧ t.received = s.received ∧
      ∀ a, Memory.read t.mem a = Memory.read s.mem a) ∧
    (∀ j, i = .recvByte j → ∀ a, a ≠ j.toNat → Memory.read t.mem a = Memory.read s.mem a)

/-- The condition inputs matter only to the WAIT that polls them, the received byte only to
RECV_BYTE (R24, R25). -/
def Obligations.InputsMatterOnlyWhereSampled : Prop :=
  ∀ (i : Instr) (s t : State) (j : Input), i.isHost = false →
    (∀ c, i = .wait c → Conds.level j.conds c = s.cond c) →
    (∀ k, i = .recvByte k → j.rx = s.inp.rx) →
    exec i s = .next t → exec i { s with inp := j } = .next { t with inp := j }

/-! ### The host port -/

/-- R29: the layout of STATUS bit by bit, its write-1-to-clear, busy or not, and its reset value 0. -/
def Obligations.StatusRegister : Prop :=
  (∀ s : State, ∃ w : Word, hostAccess (.read 0x004 .w4) s = .next { s with rdata := w } ∧
    w.getLsbD 0 = s.busy ∧ w.getLsbD 1 = s.done ∧ w.getLsbD 2 = s.cmderr ∧ w.getLsbD 3 = s.hosterr ∧
    w.getLsbD 4 = s.timeout ∧ w.extractLsb' 5 3 = 0#3 ∧ w.extractLsb' 8 3 = phaseCode s.phase ∧
    w.getLsbD 11 = false ∧ w.extractLsb' 12 4 = s.waitcond ∧ w.extractLsb' 16 8 = s.idx ∧
    w.extractLsb' 24 4 = s.lastto ∧ w.extractLsb' 28 4 = s.cause) ∧
  (∀ (s : State) (w : Word), hostAccess (.write 0x004 .w4 w) s = .next { s with
    done := if w.getLsbD 1 = true then false else s.done
    cmderr := if w.getLsbD 2 = true then false else s.cmderr
    hosterr := if w.getLsbD 3 = true then false else s.hosterr
    timeout := if w.getLsbD 4 = true then false else s.timeout }) ∧
  State.reset.statusWord = 0#32

/-- R30: WAITCOND is the code of the wait the engine stands at, whatever WAIT_BOUND is, and 0 with no
command running, in the abort tail, and at a micro-op that is no WAIT. -/
def Obligations.WaitcondTable : Prop :=
  ∀ s : State, ∃ w : Word, hostAccess (.read 0x004 .w4) s = .next { s with rdata := w } ∧
    (∀ c, s.busy = true → s.abt = .none → s.prog[s.upc.toNat]? = some (.wait c) →
      w.getLsbD 0 = true ∧ w.extractLsb' 12 4 =
        (match c with | .sbMsl => 1#4 | .addr => 2#4 | .btf => 3#4 | .txr => 4#4 | .rxne => 5#4)) ∧
    (s.busy = false → w.extractLsb' 12 4 = 0#4) ∧
    (s.abt ≠ .none → w.extractLsb' 12 4 = 0#4) ∧
    ((∀ c, s.prog[s.upc.toNat]? ≠ some (.wait c)) → w.extractLsb' 12 4 = 0#4)

/-- R32, R33: ACKCTL and INFO bit by bit; writes to them are ignored; ACKCTL is 1 at reset. -/
def Obligations.AckctlAndInfoRegisters : Prop :=
  (∀ s : State, ∃ w : Word, hostAccess (.read 0x008 .w4) s = .next { s with rdata := w } ∧
    w.getLsbD 0 = s.ackEn ∧ w.getLsbD 1 = s.pos ∧ w.getLsbD 2 = s.stopIssued ∧
    w.extractLsb' 3 29 = 0#29) ∧
  (∀ s : State, ∃ w : Word, hostAccess (.read 0x00C .w4) s = .next { s with rdata := w } ∧
    w.extractLsb' 0 7 = s.cfg.devAddr7 ∧ w.getLsbD 7 = false ∧ w.extractLsb' 8 8 = 0xFF#8 ∧
    (w.getLsbD 16 = true ↔ s.cfg.waitBound ≠ none) ∧ w.extractLsb' 17 15 = 0#15) ∧
  (∀ (s : State) (v : Word), hostAccess (.write 0x008 .w4 v) s = .next s ∧
    hostAccess (.write 0x00C .w4 v) s = .next s) ∧
  State.reset.ackctlWord = 0x00000001#32

/-- A malformed access in the window is refused with cause 6; a write changes nothing else, a read
returns 0 (R71, R223). That an offset outside the window is not refused so is the model's reading
(log 5). -/
def Obligations.MalformedAccessRefused : Prop :=
  ∀ (s : State) (off : Nat) (n : Width) (v : Word), off < 0x200 → (n ≠ .w4 ∨ off % 4 ≠ 0) →
    hostAccess (.write off n v) s = .next { s with hosterr := true, cause := 6#4 } ∧
    hostAccess (.read off n) s = .next { s with hosterr := true, cause := 6#4, rdata := 0#32 }

/-- Outside the window the engine does nothing (R71); what a read returns is the platform's (log 5). -/
def Obligations.OutsideTheWindow : Prop :=
  ∀ (s : State) (off : Nat) (n : Width) (v : Word), 0x200 ≤ off →
    hostAccess (.write off n v) s = .next s ∧
    hostAccess (.read off n) s = .next { s with rdata := Config.platformRead s.tick off }

/-- R222: while a command runs, writes to CMD (cause 4) and DATA (cause 5) are refused and discarded;
writes to STATUS are allowed and reads are never refused for being busy. -/
def Obligations.WritesWhileBusyRefused : Prop :=
  ∀ (s : State) (v : Word), s.busy = true →
    hostAccess (.write 0x000 .w4 v) s = .next { s with hosterr := true, cause := 4#4 } ∧
    (∀ k, k < 64 → hostAccess (.write (0x100 + 4 * k) .w4 v) s =
      .next { s with hosterr := true, cause := 5#4 }) ∧
    (∃ t, hostAccess (.write 0x004 .w4 v) s = .next t ∧ t.busy = true ∧
      t.timeout = (s.timeout && !v.getLsbD 4) ∧ t.hosterr = (s.hosterr && !v.getLsbD 3) ∧
      t.cmderr = (s.cmderr && !v.getLsbD 2) ∧ t.done = (s.done && !v.getLsbD 1)) ∧
    (∀ off, off < 0x200 → off % 4 = 0 → ∃ w, hostAccess (.read off .w4) s = .next { s with rdata := w })

/-- A DATA word on an idle engine: byte m of word k is DATA[4k+m], no other byte changes, DATA stays in
canonical form, and the word reads back (R34, R75). -/
def Obligations.DataWordStoresFourBytes : Prop :=
  ∀ (s : State) (k : Nat) (w : Word), s.busy = false → k < 64 →
    ∃ m : Memory,
      hostAccess (.write (0x100 + 4 * k) .w4 w) s = .next { s with mem := m } ∧
      (∀ j, j < 4 → Memory.read m (4 * k + j) = some (w.extractLsb' (8 * j) 8)) ∧
      (∀ a, a < 4 * k ∨ 4 * k + 4 ≤ a → Memory.read m a = Memory.read s.mem a) ∧
      (Memory.wf s.mem = true → Memory.wf m = true) ∧
      hostAccess (.read (0x100 + 4 * k) .w4) { s with mem := m } =
        .next { s with mem := m, rdata := w }

/-- A read of a DATA word returns its bytes little-endian, where a byte not written since reset is a
free draw: this holds for every value of `Config.unwrittenByte` (R34; log 3). -/
def Obligations.DataWordReads : Prop :=
  ∀ (s : State) (k j : Nat), k < 64 → j < 4 →
    ∃ w, hostAccess (.read (0x100 + 4 * k) .w4) s = .next { s with rdata := w } ∧
      w.extractLsb' (8 * j) 8 = (match Memory.read s.mem (4 * k + j) with
        | some b => b
        | none => Config.unwrittenByte s.tick (4 * k + j))

/-- R35: an admitted read changes nothing but the read data, and writes to the reserved offsets, to
ACKCTL and to INFO change nothing. CMD reads back the last accepted word, the reserved offsets 0. -/
def Obligations.ReadsHaveNoSideEffects : Prop :=
  ∀ (s : State) (off : Nat) (v : Word), off < 0x200 → off % 4 = 0 →
    (∃ w, hostAccess (.read off .w4) s = .next { s with rdata := w } ∧
      (off = 0x000 → w = s.cmd) ∧ (0x010 ≤ off → off < 0x100 → w = 0#32)) ∧
    (0x008 ≤ off → off < 0x100 → hostAccess (.write off .w4 v) s = .next s)

/-- No host access disturbs a running command (R222, R224, R232), and none touches the acknowledgment
controls, LASTTO, the configuration or the ports other than the read data. -/
def Obligations.HostAccessFrame : Prop :=
  ∀ (a : Access) (s t : State), hostAccess a s = .next t →
    t.ackEn = s.ackEn ∧ t.pos = s.pos ∧ t.lastto = s.lastto ∧ t.cfg = s.cfg ∧ t.inp = s.inp ∧
    t.port = s.port ∧ t.script = s.script ∧ t.tick = s.tick ∧
    (s.timeout = false → t.timeout = false) ∧
    (s.busy = true → t.busy = true ∧ t.cmd = s.cmd ∧ t.upc = s.upc ∧ t.polls = s.polls ∧
      t.abt = s.abt ∧ t.stopIssued = s.stopIssued ∧ t.idx = s.idx ∧ t.pay = s.pay ∧
      t.actions = s.actions ∧ t.records = s.records ∧ t.received = s.received ∧
      ∀ j, Memory.read t.mem j = Memory.read s.mem j)

/-! ### Reset -/

/-- R250: a step with `rst` asserted, whatever the host does in it, leaves every engine field at its
reset value, presents no action, and leaves every DATA byte unspecified: a free draw, for every value
of `Config.unwrittenByte`. -/
def Obligations.ResetStepLeavesResetState : Prop :=
  ∀ s : State, s.nextInput.rst = true → ∃ t, step s = .next t ∧
    t.busy = false ∧ t.done = false ∧ t.cmderr = false ∧ t.hosterr = false ∧ t.timeout = false ∧
    t.cause = 0#4 ∧ t.lastto = 0#4 ∧ t.cmd = 0#32 ∧ t.upc = 0#10 ∧ t.polls = 0 ∧ t.abt = .none ∧
    t.stopIssued = false ∧ t.idx = 0#8 ∧ t.ackEn = true ∧ t.pos = false ∧
    t.port = ⟨0#4, 0#8⟩ ∧ t.ackEnO = true ∧ t.posO = false ∧
    t.statusWord = 0#32 ∧ t.ackctlWord = 1#32 ∧ t.phase = .idle ∧
    (∀ d j, t.dataByte d j = Config.unwrittenByte d j)

/-- R252: while `rst` is asserted a host write is ignored and a host read returns reset values; a DATA
read returns an unspecified value. That the last read's answer outlives a reset is log 6, and that DATA
lists nothing and reads as a free draw is log 3. -/
def Obligations.HostAccessDuringReset : Prop :=
  ∀ s : State, s.nextInput.rst = true → ∃ t, step s = .next t ∧
    (∀ off n v, s.nextInput.host = some (.write off n v) → t.rdata = s.rdata ∧ t.hosterr = false ∧
      t.cmderr = false ∧ t.busy = false ∧ t.cmd = 0#32 ∧ t.mem = []) ∧
    (s.nextInput.host = some (.read 0x000 .w4) → t.rdata = 0#32) ∧
    (s.nextInput.host = some (.read 0x004 .w4) → t.rdata = 0#32) ∧
    (s.nextInput.host = some (.read 0x008 .w4) → t.rdata = 1#32) ∧
    (s.nextInput.host = some (.read 0x00C .w4) → t.rdata = s.infoWord) ∧
    (∀ off, 0x010 ≤ off → off < 0x100 → off % 4 = 0 → s.nextInput.host = some (.read off .w4) →
      t.rdata = 0#32) ∧
    (∀ k j, k < 64 → j < 4 → s.nextInput.host = some (.read (0x100 + 4 * k) .w4) →
      t.rdata.extractLsb' (8 * j) 8 = Config.unwrittenByte t.tick (4 * k + j))

/-! ### Microprograms -/

/-- R185, R186: the addressing bytes and the register-address bytes. -/
def Obligations.OperandBytes : Prop :=
  (∀ p : Params, (addrWrite p).toNat = 2 * p.devAddr7.toNat ∧
    addrWrite p = (p.devAddr7.setWidth 8 <<< 1) &&& 0xFE#8 ∧
    addrRead p = addrWrite p ||| 0x01#8 ∧ addrRead p = addrWrite p + 1#8) ∧
  (∀ a : HalfWord, regHi a = a.extractLsb' 8 8 ∧ regLo a = a.extractLsb' 0 8 ∧
    regHi a ++ regLo a = a)

/-- R138: the write microprogram, index by index. -/
def Obligations.WriteProgramShape : Prop :=
  ∀ (p : Params) (a : HalfWord) (bs : List Byte),
    (writeProg p a bs).length = 2 * bs.length + 10 ∧
    (writeProg p a bs).take 9 =
      [.start, .wait .sbMsl, .sendAddr (addrWrite p), .wait .addr, .clearAddr,
       .sendByte false (a.extractLsb' 8 8), .wait .txr, .sendByte false (a.extractLsb' 0 8), .wait .txr] ∧
    (∀ (i : Nat) (h : i < bs.length),
      (writeProg p a bs)[9 + 2 * i]? = some (.sendByte true bs[i]) ∧
      (writeProg p a bs)[10 + 2 * i]? = some (.wait .txr)) ∧
    (writeProg p a bs)[2 * bs.length + 9]? = some .stop

/-- R140-R143: the three-way branch of the read microprogram, index by index. -/
def Obligations.ReadProgramShape : Prop :=
  ∀ (p : Params) (a : HalfWord),
    readProg p a 1 = (writeProg p a []).take 9 ++
      [.restart, .wait .sbMsl, .sendAddr (addrRead p), .ackOff, .wait .addr, .clearAddr,
       .wait .rxne, .recvByte 0#8, .stop, .ackOn] ∧
    readProg p a 2 = (writeProg p a []).take 9 ++
      [.restart, .wait .sbMsl, .sendAddr (addrRead p), .posOn, .wait .addr, .clearAddr,
       .ackOff, .wait .btf, .recvByte 0#8, .stop, .wait .rxne, .recvByte 1#8, .posOff, .ackOn] ∧
    (∀ n, 3 ≤ n →
      (readProg p a n).length = 2 * n + 17 ∧
      (readProg p a n).take 14 = (writeProg p a []).take 9 ++
        [.restart, .wait .sbMsl, .sendAddr (addrRead p), .wait .addr, .clearAddr] ∧
      (∀ i, i + 2 < n → (readProg p a n)[14 + 2 * i]? = some (.wait .btf) ∧
        (readProg p a n)[15 + 2 * i]? = some (.recvByte (BitVec.ofNat 8 i))) ∧
      (readProg p a n)[2 * n + 10]? = some .ackOff ∧
      (readProg p a n)[2 * n + 11]? = some (.wait .btf) ∧
      (readProg p a n)[2 * n + 12]? = some (.recvByte (BitVec.ofNat 8 (n - 2))) ∧
      (readProg p a n)[2 * n + 13]? = some .stop ∧
      (readProg p a n)[2 * n + 14]? = some (.wait .rxne) ∧
      (readProg p a n)[2 * n + 15]? = some (.recvByte (BitVec.ofNat 8 (n - 1))) ∧
      (readProg p a n)[2 * n + 16]? = some .ackOn)

/-- R144: lengths, the one START, the one STOP at index t, the one RESTART of a read at index 9, and
CLEAR_ADDR just before the data phase of a read. -/
def Obligations.ProgramLandmarks : Prop :=
  ∀ s : State, 1 ≤ s.cmdLen →
    (s.cmdOp = 1#2 → s.prog.length = 2 * s.cmdLen + 10 ∧ s.dataStart = 9 ∧
      s.stopIndex = 2 * s.cmdLen + 9 ∧ s.prog.count .restart = 0 ∧ s.prog.getLast? = some .stop) ∧
    (s.cmdOp = 2#2 →
      s.prog.length = (if s.cmdLen = 1 then 19 else if s.cmdLen = 2 then 23 else 2 * s.cmdLen + 17) ∧
      s.dataStart = (if s.cmdLen ≤ 2 then 15 else 14) ∧
      s.stopIndex = (if s.cmdLen = 1 then 17 else if s.cmdLen = 2 then 18 else 2 * s.cmdLen + 13) ∧
      s.prog[9]? = some .restart ∧ s.prog.count .restart = 1 ∧
      s.prog[11]? = some (.sendAddr (addrRead s.cfg)) ∧ s.prog[s.dataStart - 1]? = some .clearAddr ∧
      s.prog.getLast? = some .ackOn) ∧
    (s.cmdOp = 1#2 ∨ s.cmdOp = 2#2 →
      12 ≤ s.prog.length ∧ s.prog.length ≤ 527 ∧
      s.prog[0]? = some .start ∧ s.prog.count .start = 1 ∧
      s.prog[s.stopIndex]? = some .stop ∧ s.prog.count .stop = 1)

/-- R206: where the acknowledgment controls stand: none in a write; in a read one ACK_OFF and one
ACK_ON, and POS only for two bytes, at the indices of the three branches. -/
def Obligations.AckControlPlacement : Prop :=
  (∀ (p : Params) (a : HalfWord) (bs : List Byte) (i : Instr), i ∈ writeProg p a bs →
    i ≠ .ackOn ∧ i ≠ .ackOff ∧ i ≠ .posOn ∧ i ≠ .posOff) ∧
  (∀ (p : Params) (a : HalfWord) (n : Nat), 1 ≤ n →
    (readProg p a n).count .ackOff = 1 ∧ (readProg p a n).count .ackOn = 1 ∧
    (readProg p a n).count .posOn = (if n = 2 then 1 else 0) ∧
    (readProg p a n).count .posOff = (if n = 2 then 1 else 0) ∧
    (readProg p a n)[if n = 1 then 12 else if n = 2 then 15 else 2 * n + 10]? = some .ackOff ∧
    (n = 2 → (readProg p a n)[12]? = some .posOn ∧ (readProg p a n)[21]? = some .posOff))

/-- R109: the generator produces only valid, well-formed micro-ops, and the fetched word decodes to
the micro-op it was made from. -/
def Obligations.GeneratorMakesValidWords : Prop :=
  ∀ (s : State) (i : Instr), i ∈ s.prog →
    i.isHost = false ∧ i.wf = true ∧ decode (.micro (encodeMicro i)) = .ok i

/-- R146: no step but a reset changes the microprogram of a running command. -/
def Obligations.RunningProgramIsFrozen : Prop :=
  ∀ s t : State, s.busy = true → s.nextInput.rst = false → step s = .next t → t.prog = s.prog

/-- R147: PHASE for every state of a WRITE_REG and of a READ_REG, with the landmarks of R144 written out. -/
def Obligations.PhaseTable : Prop :=
  (∀ s : State, s.busy = false → phaseCode s.phase = 0#3) ∧
  (∀ s : State, s.busy = true → s.abt ≠ .none → phaseCode s.phase = 4#3) ∧
  (∀ s : State, s.busy = true → s.abt = .none → s.cmdOp = 1#2 →
    phaseCode s.phase =
      if 2 * s.cmdLen + 9 ≤ s.upc.toNat then 4#3
      else if s.upc.toNat < 5 then 1#3 else if s.upc.toNat < 9 then 2#3 else 3#3) ∧
  (∀ (s : State) (d t : Nat), s.busy = true → s.abt = .none → s.cmdOp = 2#2 → 1 ≤ s.cmdLen →
    d = (if s.cmdLen ≤ 2 then 15 else 14) →
    t = (if s.cmdLen = 1 then 17 else if s.cmdLen = 2 then 18 else 2 * s.cmdLen + 13) →
    phaseCode s.phase =
      if t ≤ s.upc.toNat then 4#3
      else if s.upc.toNat < 5 then 1#3 else if s.upc.toNat < 9 then 2#3
      else if s.upc.toNat < d then 1#3 else 3#3)

/-- R147: while a command runs, PHASE is STOP_PENDING exactly from the STOP on and in an abort; it is
IDLE exactly when no command runs. -/
def Obligations.PhaseFollowsTheStop : Prop :=
  ∀ s : State, Inv s →
    (s.phase = .idle ↔ s.busy = false) ∧
    (s.busy = true → s.abt = .none →
      (s.phase = .stopPending ↔ s.stopIssued = true ∨ s.prog[s.upc.toNat]? = some .stop))

/-! ### The whole machine -/

/-- The invariant holds at reset. -/
def Obligations.ResetMeetsInvariant : Prop := Inv State.reset

/-- The invariant (it holds R37) is kept by every step, whatever the host and the environment do. -/
def Obligations.StepKeepsInvariant : Prop :=
  ∀ s t : State, Inv s → step s = .next t → Inv t

/-- From a state that meets the invariant every step answers a next state: no fault, no refusal, and
a hang is a run of real steps (R228). -/
def Obligations.InvariantStateAlwaysSteps : Prop :=
  ∀ s : State, Inv s → ∃ t, step s = .next t

/-- R149: a command completes exactly in the step that runs the last micro-op of its program, never
in a wait. -/
def Obligations.CompletesAtTheLastMicroOp : Prop :=
  ∀ s t : State, Inv s → s.busy = true → s.abt = .none → isEngineTurn s.nextInput →
    step s = .next t →
    (t.busy = false ↔ s.upc.toNat + 1 = s.prog.length) ∧
    (t.busy = false →
      s.prog[s.upc.toNat]? = some (if s.cmdOp = 1#2 then .stop else .ackOn) ∧
      t.done = true ∧ t.upc = 0#10 ∧ t.polls = 0 ∧ t.cmd = s.cmd ∧ t.idx = s.idx ∧ t.mem = s.mem ∧
      t.timeout = s.timeout ∧ t.pos = s.pos ∧
      (s.cmdOp = 1#2 → t.stopIssued = true ∧ t.ackEn = s.ackEn) ∧
      (s.cmdOp = 2#2 → t.stopIssued = s.stopIssued ∧ t.ackEn = true) ∧ t.idx.toNat = s.cmdLen)

/-- R38: a session that ends without a reset, completed or aborted, has emitted exactly one STOP; a
reset ends it with no STOP. -/
def Obligations.SessionEndsWithOneStop : Prop :=
  ∀ s t : State, Inv s → s.busy = true → step s = .next t →
    (s.nextInput.rst = false → t.busy = false →
      t.stopIssued = true ∧ t.actions.countP isStop = 1 ∧ t.done = true ∧ t.ackEn = true ∧
      t.pos = false) ∧
    (s.nextInput.rst = true → t.busy = false ∧ t.port = ⟨0#4, 0#8⟩ ∧ t.stopIssued = false)

/-- R208: the byte-boundary records of a command that completes without an abort. -/
def Obligations.CompletedReadRecords : Prop :=
  ∀ s t : State, Inv s → s.busy = true → s.abt = .none → s.nextInput.rst = false →
    step s = .next t → t.busy = false →
    (s.cmdOp = 2#2 → t.records = expectedRecords s.cmdLen) ∧ (s.cmdOp = 1#2 → t.records = [])

/-- R82: when a READ_REG completes, DATA[i] holds the byte handed over at index i, for every i < LEN. -/
def Obligations.CompletionPublishesResult : Prop :=
  ∀ s t : State, Inv s → s.busy = true → s.abt = .none → s.nextInput.rst = false →
    s.cmdOp = 2#2 → step s = .next t → t.busy = false →
    t.received.length = s.cmdLen ∧
    ∀ i, i < s.cmdLen → (∀ d, some (t.dataByte d i) = t.received[i]?)

/-- R226, R227: the abort tail, step by step to its end, with any three engine steps; it waits for
nothing. -/
def Obligations.AbortTailEndsTheSession : Prop :=
  ∀ s : State, s.busy = true →
    (∀ x y z rest, s.abt = .stop → s.script = x :: y :: z :: rest →
      isEngineTurn x → isEngineTurn y → isEngineTurn z →
      runSteps 3 s = .next { s with
        stopIssued := true, pos := false, ackEn := true, abt := .none, timeout := true,
        busy := false, done := true, upc := 0#10, inp := z, script := rest, tick := s.tick + 3,
        port := ⟨0x8#4, 0#8⟩,
        actions := s.actions ++ [⟨0x3#4, 0#8⟩, ⟨0xB#4, 0#8⟩, ⟨0x8#4, 0#8⟩] }) ∧
    (∀ y z rest, s.abt = .posOff → s.script = y :: z :: rest → isEngineTurn y → isEngineTurn z →
      runSteps 2 s = .next { s with
        pos := false, ackEn := true, abt := .none, timeout := true,
        busy := false, done := true, upc := 0#10, inp := z, script := rest, tick := s.tick + 2,
        port := ⟨0x8#4, 0#8⟩, actions := s.actions ++ [⟨0xB#4, 0#8⟩, ⟨0x8#4, 0#8⟩] })

/-- R228: with WAIT_BOUND = none a wait whose condition stays false polls on for any number of steps:
busy, at the same micro-op, STATUS as before, no action. -/
def Obligations.UnansweredWaitHangs : Prop :=
  ∀ (n : Nat) (s : State) (c : Cond), s.busy = true → s.abt = .none → s.cfg.waitBound = none →
    s.prog[s.upc.toNat]? = some (.wait c) → n ≤ s.script.length →
    (∀ i ∈ s.script.take n, isEngineTurn i ∧ Conds.level i.conds c = false) →
    ∃ t, runSteps n s = .next t ∧ t.busy = true ∧ t.upc = s.upc ∧ t.actions = s.actions ∧
      t.statusWord = s.statusWord ∧ t.waitcond = c.code ∧ t.mem = s.mem ∧ t.cmd = s.cmd

/-- Where the environment answers every poll `true`, a running command ends after exactly as many
engine steps as it has micro-ops left, with every byte moved and no timeout (R149, D33). That the
environment answers is a premise: it never follows from the engine alone (R26). -/
def Obligations.AnsweredCommandCompletes : Prop :=
  ∀ s : State, Inv s → s.busy = true → s.abt = .none →
    s.prog.length - s.upc.toNat ≤ s.script.length →
    (∀ i ∈ s.script.take (s.prog.length - s.upc.toNat), isReadyTurn i) →
    ∃ t, runSteps (s.prog.length - s.upc.toNat) s = .next t ∧
      t.busy = false ∧ t.done = true ∧ t.timeout = s.timeout ∧ t.cmd = s.cmd ∧
      t.idx.toNat = s.cmdLen ∧ t.actions = s.prog.filterMap portAction

/-- R36: which steps may change which flag. -/
def Obligations.FlagsChangeOnlyByTheirRules : Prop :=
  ∀ s t : State, s.nextInput.rst = false → step s = .next t →
    (s.nextInput.host ≠ none →
      t.ackEn = s.ackEn ∧ t.pos = s.pos ∧ (t.timeout = true → s.timeout = true) ∧
      (s.busy = true → t.busy = true) ∧ (t.done = true → s.done = true) ∧
      (t.stopIssued ≠ s.stopIssued → s.busy = false ∧ t.busy = true)) ∧
    (s.nextInput.host = none →
      t.cmderr = s.cmderr ∧ t.hosterr = s.hosterr ∧ (t.busy = true → s.busy = true) ∧
      (s.done = true → t.done = true) ∧ (s.stopIssued = true → t.stopIssued = true) ∧
      (t.timeout ≠ s.timeout → s.abt = .ackOn ∧ t.busy = false) ∧
      (t.cause ≠ s.cause → t.cause = 7#4 ∧ s.cfg.waitBound ≠ none))

/-! ### The host's statements and the wire -/

/-- The accesses of `write_register a, bs` (R112) on an idle engine store the payload and start exactly
the write microprogram of that payload (R134, R255); `bootStmts` uses it for the configuration. -/
def Obligations.WriteRegisterStartsItsProgram : Prop :=
  ∀ (s : State) (a : HalfWord) (bs : List Byte), s.busy = false → 1 ≤ bs.length → bs.length ≤ 255 →
    ∃ t, runAccesses (writeRegisterAccesses a bs) s = .next t ∧
      t.busy = true ∧ t.upc = 0#10 ∧ t.abt = .none ∧ t.cmdAddr = a ∧ t.cmdLen = bs.length ∧
      t.prog = writeProg s.cfg a bs ∧
      (∀ (i : Nat) (h : i < bs.length), Memory.read t.mem i = some bs[i])

/-- `read_register a, n` (R112), the twin of the statement above: its CMD write on an idle engine starts
exactly the read microprogram, its poll is finished when BUSY reads 0, and its ⌈n/4⌉ reads return the
DATA words from byte 0 on. An unwritten byte is a free draw (log 3). -/
def Obligations.ReadRegisterStartsItsProgram : Prop :=
  ∀ (a : HalfWord) (n : Byte), n ≠ 0#8 →
    ∃ (cmd : HostStmt) (reads : List HostStmt),
      readRegister a n = cmd :: .poll 0x004 1#32 0#32 :: reads ∧
      reads.length = (n.toNat + 3) / 4 ∧
      (∀ s : State, s.busy = false → ∃ t, hostAccess (hostStmtAccess cmd) s = .next t ∧
        t.busy = true ∧ t.upc = 0#10 ∧ t.abt = .none ∧ t.cmdAddr = a ∧ t.cmdLen = n.toNat ∧
        t.prog = readProg s.cfg a n.toNat ∧ t.mem = s.mem) ∧
      (∀ r : Word, hostStmtFinished (.poll 0x004 1#32 0#32) r = true ↔ r.getLsbD 0 = false) ∧
      (∀ (k : Nat) (h : k < reads.length) (s : State), ∃ w,
        hostAccess (hostStmtAccess reads[k]) s = .next { s with rdata := w } ∧
        ∀ j, j < 4 → w.extractLsb' (8 * j) 8 = (match Memory.read s.mem (4 * k + j) with
          | some b => b
          | none => Config.unwrittenByte s.tick (4 * k + j)))

/-- Steps 3 to 6 of the boot order (R258): the sticky bits cleared, the 106 bytes of CONFIG_TABLE in 27
DATA words, one WRITE_REG of them at CFG_BASE, the poll of BUSY, the read of STATUS. -/
def Obligations.BootIssuesTheConfigurationWrite : Prop :=
  ∃ ws : List Word, ws.length = 27 ∧
    bootStmts = [.hw 0x004 0x1E#32] ++ ws.mapIdx (fun k w => .hw (0x100 + 4 * k) w) ++
      [.hw 0x000 ((Config.cfgBase.setWidth 32 <<< 16) ||| 0x6A01#32), .poll 0x004 1#32 0#32,
       .hr 0x004] ∧
    ∀ (j : Nat) (h : j < 106), ∃ w, ws[j / 4]? = some w ∧
      w.extractLsb' (8 * (j % 4)) 8 = Config.configTable[j]

/-- Under EA-CONFORM, a premise on the wire, the two microprograms put exactly the transactions of R151
on it, with the ACKs and the NACK of R209; the configuration write (R153) is the first clause at
CFG_BASE and CONFIG_TABLE. The form of the premise is the model's (log 14). -/
def Obligations.ProgramsMakeTheWireTransactions : Prop :=
  (∀ (p : Params) (a : HalfWord) (bs : List Byte) (wire : List WireEvent),
    EaConform bs.length ((writeProg p a bs).filterMap portAction) [] wire →
    wire = [.s, .w (addrWrite p) true, .w (regHi a) true, .w (regLo a) true] ++
      bs.map (.w · true) ++ [.p]) ∧
  (∀ (p : Params) (a : HalfWord) (ds : List Byte) (last : Byte) (wire : List WireEvent),
    ds.length ≤ 254 →
    EaConform (ds.length + 1) ((readProg p a (ds.length + 1)).filterMap portAction) (ds ++ [last])
      wire →
    wire = [.s, .w (addrWrite p) true, .w (regHi a) true, .w (regLo a) true, .sr,
      .w (addrRead p) true] ++ ds.map (.r · true) ++ [.r last false, .p])

/-- R151 for a session of the machine: when a command completes without an abort, the wire of a
peripheral that conforms is the transaction of its command. EA-CONFORM is the premise (log 14). -/
def Obligations.CompletedSessionOnTheWire : Prop :=
  ∀ (s t : State) (wire : List WireEvent), Inv s → s.busy = true → s.abt = .none →
    s.nextInput.rst = false → step s = .next t → t.busy = false →
    EaConform s.cmdLen t.actions t.received wire →
    (s.cmdOp = 1#2 → wire = writeWire s.cfg s.cmdAddr s.payload) ∧
    (s.cmdOp = 2#2 → wire = readWire s.cfg s.cmdAddr ((List.range s.cmdLen).map (t.dataByte t.tick)))

/-- R209 for every READ_REG that ends without a reset, completed or aborted: under the premise
EA-CONFORM (log 14) each byte it took was acknowledged exactly if it was not byte N-1, every byte the
master sent was acknowledged, and the STOP condition is the wire's last event. -/
def Obligations.TakenBytesAreAcknowledged : Prop :=
  ∀ (s t : State) (wire : List WireEvent), Inv s → s.busy = true → s.cmdOp = 2#2 →
    s.nextInput.rst = false → step s = .next t → t.busy = false →
    EaConform s.cmdLen t.actions t.received wire →
    (masterAcks wire).take t.received.length =
      (List.range t.received.length).map (fun i => decide (i + 1 < s.cmdLen)) ∧
    (∀ b ack, WireEvent.w b ack ∈ wire → ack = true) ∧
    wire.getLast? = some .p

/-- R152 with the reference device of D30: it takes every write transaction, holds the payload from
register `a` on (modulo 2^16), and a read transaction of that length right after is a run of it
exactly when the bytes read are the bytes written. -/
def Obligations.ReferenceDeviceRoundTrip : Prop :=
  ∀ (d : RefDevice) (p : Params) (a : HalfWord) (bs : List Byte), bs.length ≤ 255 →
    ∃ e, refDeviceRun d (writeWire p a bs) = some e ∧
      (∀ (i : Nat) (h : i < bs.length),
        e.regs[(a + BitVec.ofNat 16 i).toNat]'(a + BitVec.ofNat 16 i).isLt = bs[i]) ∧
      (∀ ds : List Byte, ds.length = bs.length →
        ((refDeviceRun e (readWire p a ds)).isSome = true ↔ ds = bs))

/-- R152 for two sessions of the machine: a WRITE_REG and a READ_REG of the same register address and
length complete, each under the premise EA-CONFORM (log 14), and the wires are one after the other runs
of the reference device (D30). Then DATA holds the payload that was written. -/
def Obligations.WriteThenReadRoundTrip : Prop :=
  ∀ (s t s' t' : State) (wire wire' : List WireEvent) (d e e' : RefDevice),
    Inv s → s.busy = true → s.abt = .none → s.cmdOp = 1#2 → s.nextInput.rst = false →
    step s = .next t → t.busy = false → EaConform s.cmdLen t.actions t.received wire →
    Inv s' → s'.busy = true → s'.abt = .none → s'.cmdOp = 2#2 → s'.nextInput.rst = false →
    step s' = .next t' → t'.busy = false → EaConform s'.cmdLen t'.actions t'.received wire' →
    s'.cmdAddr = s.cmdAddr → s'.cmdLen = s.cmdLen →
    refDeviceRun d wire = some e → refDeviceRun e wire' = some e' →
    ∀ i, i < s.cmdLen → Memory.read t'.mem i = s.payload[i]?
end

