-- ==== Sys2Proof/Laws/Decode.lean ====
section
/-! SUPPORT. The fields of the words the encoder lays out, and a word from its fields. -/
namespace Sys2Proof

theorem microWord_fields (u : HalfWord) : microWord (microAct u) (microCond u) (microOpnd u) = u := by
  have key : ∀ v : BitVec (4 + 4 + 8),
      (v.extractLsb' 12 4 ++ v.extractLsb' 8 4 ++ v.extractLsb' 0 8 : BitVec (4 + 4 + 8)) = v := by
    intro v
    apply BitVec.eq_of_getLsbD_eq
    intro i hi
    simp only [BitVec.getLsbD_append, BitVec.getLsbD_extractLsb']
    by_cases h1 : i < 8
    · simp [h1]
    · by_cases h2 : i - 8 < 4
      · simp [h1, h2]; congr 1; omega
      · have h3 : i - 8 - 4 < 4 := by omega
        simp [h1, h2, h3]; congr 1; omega
  exact key u

theorem microAct_microWord (a c : BitVec 4) (o : Byte) : microAct (microWord a c o) = a := by
  show BitVec.extractLsb' 12 4 (a ++ c ++ o : BitVec (4 + 4 + 8)) = a
  apply BitVec.eq_of_getLsbD_eq
  intro i hi
  have h1 : ¬ 12 + i < 8 := by omega
  have h2 : ¬ 12 + i - 8 < 4 := by omega
  have h3 : 12 + i - 8 - 4 = i := by omega
  simp only [BitVec.getLsbD_append, BitVec.getLsbD_extractLsb', h1, h2, h3, hi, decide_true,
    Bool.true_and, if_false]

theorem microCond_microWord (a c : BitVec 4) (o : Byte) : microCond (microWord a c o) = c := by
  show BitVec.extractLsb' 8 4 (a ++ c ++ o : BitVec (4 + 4 + 8)) = c
  apply BitVec.eq_of_getLsbD_eq
  intro i hi
  simp only [BitVec.getLsbD_append, BitVec.getLsbD_extractLsb']
  simp [hi]

theorem microOpnd_microWord (a c : BitVec 4) (o : Byte) : microOpnd (microWord a c o) = o := by
  show BitVec.extractLsb' 0 8 (a ++ c ++ o : BitVec (4 + 4 + 8)) = o
  apply BitVec.eq_of_getLsbD_eq
  intro i hi
  simp only [BitVec.getLsbD_append, BitVec.getLsbD_extractLsb']
  simp [hi]

/-- The D bit and the zero bits above it, of a SEND_BYTE word. -/
theorem microD_microWord (a : BitVec 4) (d : Bool) (o : Byte) :
    (microWord a (0#3 ++ BitVec.ofBool d) o).getLsbD 8 = d ∧
      (microWord a (0#3 ++ BitVec.ofBool d) o).extractLsb' 9 3 = 0#3 := by
  have key : ∀ c : BitVec (3 + 1),
      (a ++ c ++ o : BitVec (4 + 4 + 8)).getLsbD 8 = c.getLsbD 0 ∧
        (a ++ c ++ o : BitVec (4 + 4 + 8)).extractLsb' 9 3 = c.extractLsb' 1 3 := by
    intro c
    constructor
    · rw [BitVec.getLsbD_append, BitVec.getLsbD_append]; rfl
    · apply BitVec.eq_of_getLsbD_eq
      intro i hi
      have h1 : ¬ 9 + i < 8 := by omega
      have h3 : 9 + i - 8 = 1 + i := by omega
      have h2 : 1 + i < 3 + 1 := by omega
      simp only [BitVec.getLsbD_append, BitVec.getLsbD_extractLsb', h1, h3, h2, if_false, if_true]
  refine ⟨(key _).1.trans ?_, (key _).2.trans ?_⟩ <;> cases d <;> decide

theorem hostWord_fields (w : Word) :
    w.extractLsb' 16 16 ++ w.extractLsb' 8 8 ++ w.extractLsb' 2 6 ++ w.extractLsb' 0 2 = w := by
  have key : ∀ v : BitVec (16 + 8 + 6 + 2),
      (v.extractLsb' 16 16 ++ v.extractLsb' 8 8 ++ v.extractLsb' 2 6 ++ v.extractLsb' 0 2 :
        BitVec (16 + 8 + 6 + 2)) = v := by
    intro v
    apply BitVec.eq_of_getLsbD_eq
    intro i hi
    simp only [BitVec.getLsbD_append, BitVec.getLsbD_extractLsb']
    by_cases h1 : i < 2
    · simp [h1]
    · by_cases h2 : i - 2 < 6
      · simp [h1, h2]; congr 1; omega
      · by_cases h3 : i - 2 - 6 < 8
        · simp [h1, h2, h3]; congr 1; omega
        · have h4 : i - 2 - 6 - 8 < 16 := by omega
          simp [h1, h2, h3, h4]; congr 1; omega
  exact key w

theorem hostOp_hostWord (a : HalfWord) (n : Byte) (op : BitVec 2) : hostOp (hostWord a n op) = op := by
  show BitVec.extractLsb' 0 2 (a ++ n ++ 0#6 ++ op : BitVec (16 + 8 + 6 + 2)) = op
  apply BitVec.eq_of_getLsbD_eq
  intro i hi
  simp only [BitVec.getLsbD_append, BitVec.getLsbD_extractLsb']
  simp [hi]

theorem hostRsv_hostWord (a : HalfWord) (n : Byte) (op : BitVec 2) : hostRsv (hostWord a n op) = 0#6 := by
  show BitVec.extractLsb' 2 6 (a ++ n ++ 0#6 ++ op : BitVec (16 + 8 + 6 + 2)) = 0#6
  apply BitVec.eq_of_getLsbD_eq
  intro i hi
  have h1 : ¬ 2 + i < 2 := by omega
  have h2 : 2 + i - 2 = i := by omega
  simp only [BitVec.getLsbD_append, BitVec.getLsbD_extractLsb', h1, h2, hi, if_false, if_true,
    decide_true, Bool.true_and]

theorem hostLen_hostWord (a : HalfWord) (n : Byte) (op : BitVec 2) : hostLen (hostWord a n op) = n := by
  show BitVec.extractLsb' 8 8 (a ++ n ++ 0#6 ++ op : BitVec (16 + 8 + 6 + 2)) = n
  apply BitVec.eq_of_getLsbD_eq
  intro i hi
  have h1 : ¬ 8 + i < 2 := by omega
  have h2 : ¬ 8 + i - 2 < 6 := by omega
  have h3 : 8 + i - 2 - 6 = i := by omega
  simp only [BitVec.getLsbD_append, BitVec.getLsbD_extractLsb', h1, h2, h3, hi, if_false, if_true,
    decide_true, Bool.true_and]

theorem hostAddr_hostWord (a : HalfWord) (n : Byte) (op : BitVec 2) : hostAddr (hostWord a n op) = a := by
  show BitVec.extractLsb' 16 16 (a ++ n ++ 0#6 ++ op : BitVec (16 + 8 + 6 + 2)) = a
  apply BitVec.eq_of_getLsbD_eq
  intro i hi
  have h1 : ¬ 16 + i < 2 := by omega
  have h2 : ¬ 16 + i - 2 < 6 := by omega
  have h3 : ¬ 16 + i - 2 - 6 < 8 := by omega
  have h4 : 16 + i - 2 - 6 - 8 = i := by omega
  simp only [BitVec.getLsbD_append, BitVec.getLsbD_extractLsb', h1, h2, h3, h4, hi, if_false,
    decide_true, Bool.true_and]

end Sys2Proof
end

