-- ==== Sys2Proof/Laws/Memory.lean ====
section
/-! SUPPORT. The laws of DATA: read after write, and the canonical form. -/
namespace Sys2Proof.Machine

theorem Memory.read_write_same (m : Memory) (a : Nat) (v : Byte) :
    Memory.read (Memory.write m a v) a = some v := by
  induction m with
  | nil => simp [Memory.write, Memory.read]
  | cons c m ih =>
    obtain ⟨b, w⟩ := c
    unfold Memory.write
    split
    · simp [Memory.read]
    · split
      · simp [Memory.read]
      · simp [Memory.read, *]

theorem Memory.read_write_ne (m : Memory) {a b : Nat} (v : Byte) (h : b ≠ a) :
    Memory.read (Memory.write m a v) b = Memory.read m b := by
  induction m with
  | nil => simp [Memory.write, Memory.read, h]
  | cons c m ih =>
    obtain ⟨x, w⟩ := c
    unfold Memory.write
    split
    · simp [Memory.read, h]
    · split
      · subst x; simp [Memory.read, h]
      · simp [Memory.read, ih]

/-- Read after write, both cases. -/
theorem Memory.read_write (m : Memory) (a b : Nat) (v : Byte) :
    Memory.read (Memory.write m a v) b = if b = a then some v else Memory.read m b := by
  split
  · subst b; exact Memory.read_write_same m a v
  · exact Memory.read_write_ne m v ‹_›

theorem Memory.wfFrom_write (m : Memory) (lo a : Nat) (v : Byte) (hm : Memory.wfFrom lo m = true)
    (ha : a < 256) (hl : lo ≤ a) : Memory.wfFrom lo (Memory.write m a v) = true := by
  induction m generalizing lo with
  | nil => simp [Memory.write, Memory.wfFrom, ha, hl]
  | cons c m ih =>
    obtain ⟨x, w⟩ := c
    simp only [Memory.wfFrom, Bool.and_eq_true, decide_eq_true_eq] at hm
    unfold Memory.write
    split
    · simp only [Memory.wfFrom, Bool.and_eq_true, decide_eq_true_eq]
      exact ⟨⟨hl, ha⟩, ⟨by omega, hm.1.2⟩, hm.2⟩
    · split
      · subst x; simpa [Memory.wfFrom, hl, ha] using hm.2
      · simp only [Memory.wfFrom, Bool.and_eq_true, decide_eq_true_eq]
        exact ⟨hm.1, ih _ hm.2 (by omega)⟩

/-- A write below 256 keeps the canonical form. -/
theorem Memory.wf_write {m : Memory} {a : Nat} (v : Byte) (hm : Memory.wf m = true) (ha : a < 256) :
    Memory.wf (Memory.write m a v) = true :=
  Memory.wfFrom_write m 0 a v hm ha (Nat.zero_le a)

theorem Memory.reset_wf : Memory.wf State.reset.mem = true := rfl

/-- DATA as a host word store leaves it. -/
theorem State.wf_writeDataWord (s : State) (j : Nat) (w : Word) (h : Memory.wf s.mem = true)
    (hj : j + 3 < 256) : Memory.wf (s.writeDataWord j w).mem = true := by
  unfold State.writeDataWord State.writeByte
  exact Memory.wf_write _ (Memory.wf_write _ (Memory.wf_write _ (Memory.wf_write _ h
    (by omega)) (by omega)) (by omega)) hj

/-- Every byte after a host word store: the four bytes of the word, all others as before. -/
theorem State.read_writeDataWord (s : State) (j b : Nat) (w : Word) :
    Memory.read (s.writeDataWord j w).mem b =
      if b = j + 3 then some (w.extractLsb' 24 8)
      else if b = j + 2 then some (w.extractLsb' 16 8)
      else if b = j + 1 then some (w.extractLsb' 8 8)
      else if b = j then some (w.extractLsb' 0 8)
      else Memory.read s.mem b := by
  simp only [State.writeDataWord, State.writeByte, Memory.read_write]

end Sys2Proof.Machine
end

