-- ==== Sys2Proof/Laws/Microprogram.lean ====
section
/-! SUPPORT. The general read loop in the form proofs use, and what a fetch finds. -/
namespace Sys2Proof.Machine

/-- The N ≥ 3 data phase: the plain bytes, then the last two (R143). -/
theorem readData_three (n : Nat) :
    readData (n + 3) =
      (List.range (n + 1)).flatMap (fun i => [.wait .btf, .recvByte (BitVec.ofNat 8 i)]) ++
        [.ackOff, .wait .btf, .recvByte (BitVec.ofNat 8 (n + 1)),
         .stop, .wait .rxne, .recvByte (BitVec.ofNat 8 (n + 2))] := by
  have hr : List.range (n + 3) = List.range (n + 1) ++ [n + 1, n + 2] := by
    rw [List.range_succ, List.range_succ]; simp
  have hl : (List.range (n + 1)).flatMap (readStep (n + 3)) =
      (List.range (n + 1)).flatMap (fun i => [.wait .btf, .recvByte (BitVec.ofNat 8 i)]) := by
    rw [List.flatMap_def, List.flatMap_def]
    congr 1
    apply List.map_congr_left
    intro i hi
    have : i + 2 < n + 3 := by have := List.mem_range.1 hi; omega
    simp only [readStep, this, if_true]
  simp only [readData, hr, List.flatMap_append, hl]
  congr 1
  simp [readStep]

/-- A fetch finds the word of the micro-op at `upc`. -/
theorem State.fetch_eq (s : State) : s.fetch = (s.prog[s.upc.toNat]?).map encodeMicro := by
  simp [State.fetch, State.progWords]

end Sys2Proof.Machine
end

