-- ==== Sys2Proof/Laws/PerInstr.lean ====
section
/-! SUPPORT. A fact about every instruction as syntax: the level of its word. -/

/-- A host command has a 32-bit word and a micro-op a 16-bit one (spec/30_encoding.md R110). -/
def Sys2Proof.Laws.Level.Statement (i : Sys2Proof.Instr) : Prop :=
  Sys2Proof.encode i = .host (Sys2Proof.encodeHost i) ∧ i.isHost = true ∨
    Sys2Proof.encode i = .micro (Sys2Proof.encodeMicro i) ∧ i.isHost = false

namespace Sys2Proof.Laws.Level

theorem nop : Statement .nop := .inl ⟨rfl, rfl⟩
theorem writeReg (a : HalfWord) (n : Byte) : Statement (.writeReg a n) := .inl ⟨rfl, rfl⟩
theorem readReg (a : HalfWord) (n : Byte) : Statement (.readReg a n) := .inl ⟨rfl, rfl⟩
theorem start : Statement .start := .inr ⟨rfl, rfl⟩
theorem restart : Statement .restart := .inr ⟨rfl, rfl⟩
theorem stop : Statement .stop := .inr ⟨rfl, rfl⟩
theorem sendAddr (b : Byte) : Statement (.sendAddr b) := .inr ⟨rfl, rfl⟩
theorem sendByte (d : Bool) (b : Byte) : Statement (.sendByte d b) := .inr ⟨rfl, rfl⟩
theorem recvByte (i : Byte) : Statement (.recvByte i) := .inr ⟨rfl, rfl⟩
theorem clearAddr : Statement .clearAddr := .inr ⟨rfl, rfl⟩
theorem ackOn : Statement .ackOn := .inr ⟨rfl, rfl⟩
theorem ackOff : Statement .ackOff := .inr ⟨rfl, rfl⟩
theorem posOn : Statement .posOn := .inr ⟨rfl, rfl⟩
theorem posOff : Statement .posOff := .inr ⟨rfl, rfl⟩
theorem wait (c : Cond) : Statement (.wait c) := .inr ⟨rfl, rfl⟩

end Sys2Proof.Laws.Level
end

