-- ==== Sys2Proof/Laws/Programs.lean ====
section
/-! SUPPORT. What the generated microprograms hold, said once: their lengths, their STOP, their data
micro-ops, the level of their instructions, and when two states have the same microprogram. -/
namespace Sys2Proof.Machine

/-- `L` is the microprogram of a command of `n` bytes. -/
def IsProg (L : List Instr) (n : Nat) : Prop :=
  (∃ p a bs, L = writeProg p a bs ∧ bs.length = n) ∨ (∃ p a, L = readProg p a n)

/-- The `n` plain bytes of a read's general loop. -/
def plainRecvs (n : Nat) : List Instr :=
  (List.range n).flatMap fun i => [.wait .btf, .recvByte (BitVec.ofNat 8 i)]

theorem plainRecvs_succ (n : Nat) :
    plainRecvs (n + 1) = plainRecvs n ++ [.wait .btf, .recvByte (BitVec.ofNat 8 n)] := by
  simp [plainRecvs, List.range_succ]

theorem readData_plainRecvs (n : Nat) : readData (n + 3) = plainRecvs (n + 1) ++
    [.ackOff, .wait .btf, .recvByte (BitVec.ofNat 8 (n + 1)), .stop, .wait .rxne,
     .recvByte (BitVec.ofNat 8 (n + 2))] := readData_three n

theorem plainRecvs_countP (p : Instr → Bool) (n : Nat) (b : Bool) (hw : p (.wait .btf) = false)
    (h : ∀ i, p (.recvByte i) = b) : (plainRecvs n).countP p = if b then n else 0 := by
  induction n with
  | zero => simp [plainRecvs]
  | succ n ih => rw [plainRecvs_succ, List.countP_append, ih]; cases b <;> simp [hw, h]

theorem sendData_countP (p : Instr → Bool) (bs : List Byte) (b : Bool) (hw : p (.wait .txr) = false)
    (h : ∀ i, p (.sendByte true i) = b) :
    (bs.flatMap sendData).countP p = if b then bs.length else 0 := by
  induction bs with
  | nil => simp
  | cons x xs ih =>
    simp only [List.flatMap_cons, List.countP_append, ih]
    cases b <;> simp [sendData, hw, h]
    omega

theorem plainRecvs_length (n : Nat) : (plainRecvs n).length = 2 * n := by
  induction n with
  | zero => rfl
  | succ n ih => rw [plainRecvs_succ, List.length_append, ih]; simp; omega

theorem sendData_length (bs : List Byte) : (bs.flatMap sendData).length = 2 * bs.length := by
  induction bs with
  | nil => rfl
  | cons x xs ih => simp only [List.flatMap_cons, List.length_append, ih, sendData, List.length_cons,
      List.length_nil]; omega

/-- The microprogram of a running WRITE_REG or READ_REG. -/
theorem State.isProg {s : State} (h : s.cmdOp = 1#2 ∨ s.cmdOp = 2#2) : IsProg s.prog s.cmdLen := by
  obtain h | h := h
  · exact .inl ⟨s.cfg, s.cmdAddr, s.payload, by simp [State.prog, h], by simp [State.payload]⟩
  · exact .inr ⟨s.cfg, s.cmdAddr, by simp [State.prog, h]⟩

/-- Exactly one STOP (R144). -/
theorem IsProg.countP_stop {L : List Instr} {n : Nat} (hL : IsProg L n) (hn : 1 ≤ n) :
    L.countP (· == .stop) = 1 := by
  obtain ⟨p, a, bs, rfl, -⟩ | ⟨p, a, rfl⟩ := hL
  · simp only [writeProg, List.countP_append]
    rw [sendData_countP _ _ false (by decide) (fun _ => rfl)]
    simp [progHead]
  · match n, hn with
    | 1, _ => simp [readProg, progHead, arm, readData]
    | 2, _ => simp [readProg, progHead, arm, readData]
    | n + 3, _ =>
      simp only [readProg, readData_plainRecvs, List.countP_append]
      rw [plainRecvs_countP _ _ false (by decide) (fun _ => rfl)]
      simp [progHead, arm]

/-- As many data micro-ops as the command has bytes (R187). -/
theorem IsProg.countP_data {L : List Instr} {n : Nat} (hL : IsProg L n) (hn : 1 ≤ n) :
    L.countP isDataOp = n := by
  obtain ⟨p, a, bs, rfl, hb⟩ | ⟨p, a, rfl⟩ := hL
  · simp only [writeProg, List.countP_append]
    rw [sendData_countP _ _ true (by decide) (fun _ => rfl)]
    simp [progHead, isDataOp, hb]
  · match n, hn with
    | 1, _ => rfl
    | 2, _ => rfl
    | n + 3, _ =>
      simp only [readProg, readData_plainRecvs, List.countP_append]
      rw [plainRecvs_countP _ _ true (by decide) (fun _ => rfl)]
      simp [progHead, arm, isDataOp, List.countP_cons]

/-- Only micro-ops (R109). -/
theorem IsProg.isHost {L : List Instr} {n : Nat} (hL : IsProg L n) : ∀ i ∈ L, i.isHost = false := by
  obtain ⟨p, a, bs, rfl, -⟩ | ⟨p, a, rfl⟩ := hL
  · intro i hi; simp [writeProg, progHead, sendData] at hi; aesop
  · match n with
    | 0 => intro i hi; simp [readProg, progHead, arm, readData] at hi; aesop
    | 1 => intro i hi; simp [readProg, progHead, arm, readData] at hi; aesop
    | 2 => intro i hi; simp [readProg, progHead, arm, readData] at hi; aesop
    | n + 3 => intro i hi; simp [readProg, progHead, arm, readData_three] at hi; aesop

/-- Between 12 and 527 micro-ops (R144). -/
theorem IsProg.length {L : List Instr} {n : Nat} (hL : IsProg L n) (hn : 1 ≤ n) (h : n ≤ 255) :
    12 ≤ L.length ∧ L.length ≤ 527 := by
  obtain ⟨p, a, bs, rfl, hb⟩ | ⟨p, a, rfl⟩ := hL
  · simp only [writeProg, List.length_append, sendData_length, progHead, List.length_cons,
      List.length_nil]; omega
  · match n, hn with
    | 1, _ => simp [readProg, progHead, arm, readData]
    | 2, _ => simp [readProg, progHead, arm, readData]
    | n + 3, _ =>
      simp only [readProg, readData_plainRecvs, List.length_append, plainRecvs_length, progHead, arm,
        List.length_cons, List.length_nil]; omega

theorem State.cmdLen_le (s : State) : s.cmdLen ≤ 255 := by
  have := (hostLen s.cmd).isLt
  simp only [State.cmdLen]
  omega

/-- The microprogram depends on the command, the configuration, the session's draw and, for a
WRITE_REG, on DATA (spec/10_state.md R21, spec/40_transactions.md R146). -/
theorem State.prog_congr {s t : State} (h1 : t.cmd = s.cmd) (h2 : t.cfg = s.cfg)
    (h3 : t.mem = s.mem ∨ s.cmdOp ≠ 1#2) (h4 : t.pay = s.pay) : t.prog = s.prog := by
  have a : t.cmdOp = s.cmdOp := by simp [State.cmdOp, h1]
  have b : t.cmdLen = s.cmdLen := by simp [State.cmdLen, h1]
  have c : t.cmdAddr = s.cmdAddr := by simp [State.cmdAddr, h1]
  unfold State.prog
  rw [a, b, c, h2]
  by_cases h : s.cmdOp = 1#2
  · obtain h3 | h3 := h3
    · have : t.payload = s.payload := by
        unfold State.payload State.payloadByte State.dataByte
        rw [b, h3, h4]
      rw [this]
    · exact absurd h h3
  · simp [h]

end Sys2Proof.Machine
end

