-- ==== Sys2Proof/Laws/State.lean ====
section
/-! SUPPORT. One lemma per field per named update, so that no proof unfolds a record update. -/
namespace Sys2Proof.Machine

/-! ### `State.emit` -/

section
variable (s : State) (act : BitVec 4) (opnd : Byte)

@[simp] theorem State.emit_busy : (s.emit act opnd).busy = s.busy := rfl
@[simp] theorem State.emit_done : (s.emit act opnd).done = s.done := rfl
@[simp] theorem State.emit_cmderr : (s.emit act opnd).cmderr = s.cmderr := rfl
@[simp] theorem State.emit_hosterr : (s.emit act opnd).hosterr = s.hosterr := rfl
@[simp] theorem State.emit_timeout : (s.emit act opnd).timeout = s.timeout := rfl
@[simp] theorem State.emit_cause : (s.emit act opnd).cause = s.cause := rfl
@[simp] theorem State.emit_lastto : (s.emit act opnd).lastto = s.lastto := rfl
@[simp] theorem State.emit_cmd : (s.emit act opnd).cmd = s.cmd := rfl
@[simp] theorem State.emit_upc : (s.emit act opnd).upc = s.upc := rfl
@[simp] theorem State.emit_polls : (s.emit act opnd).polls = s.polls := rfl
@[simp] theorem State.emit_abt : (s.emit act opnd).abt = s.abt := rfl
@[simp] theorem State.emit_stopIssued : (s.emit act opnd).stopIssued = s.stopIssued := rfl
@[simp] theorem State.emit_idx : (s.emit act opnd).idx = s.idx := rfl
@[simp] theorem State.emit_ackEn : (s.emit act opnd).ackEn = s.ackEn := rfl
@[simp] theorem State.emit_pos : (s.emit act opnd).pos = s.pos := rfl
@[simp] theorem State.emit_mem : (s.emit act opnd).mem = s.mem := rfl
@[simp] theorem State.emit_cfg : (s.emit act opnd).cfg = s.cfg := rfl
@[simp] theorem State.emit_inp : (s.emit act opnd).inp = s.inp := rfl
@[simp] theorem State.emit_port : (s.emit act opnd).port = ⟨act, opnd⟩ := rfl
@[simp] theorem State.emit_rdata : (s.emit act opnd).rdata = s.rdata := rfl
@[simp] theorem State.emit_script : (s.emit act opnd).script = s.script := rfl
@[simp] theorem State.emit_tick : (s.emit act opnd).tick = s.tick := rfl
@[simp] theorem State.emit_pay : (s.emit act opnd).pay = s.pay := rfl
@[simp] theorem State.emit_actions : (s.emit act opnd).actions = if act = 0#4 then s.actions else s.actions ++ [⟨act, opnd⟩] := rfl
@[simp] theorem State.emit_records : (s.emit act opnd).records = s.records := rfl
@[simp] theorem State.emit_received : (s.emit act opnd).received = s.received := rfl
end

/-! ### `State.advance` -/

section
variable (s : State)

@[simp] theorem State.advance_busy : (s.advance).busy = s.busy := rfl
@[simp] theorem State.advance_done : (s.advance).done = s.done := rfl
@[simp] theorem State.advance_cmderr : (s.advance).cmderr = s.cmderr := rfl
@[simp] theorem State.advance_hosterr : (s.advance).hosterr = s.hosterr := rfl
@[simp] theorem State.advance_timeout : (s.advance).timeout = s.timeout := rfl
@[simp] theorem State.advance_cause : (s.advance).cause = s.cause := rfl
@[simp] theorem State.advance_lastto : (s.advance).lastto = s.lastto := rfl
@[simp] theorem State.advance_cmd : (s.advance).cmd = s.cmd := rfl
@[simp] theorem State.advance_upc : (s.advance).upc = s.upc + 1#10 := rfl
@[simp] theorem State.advance_polls : (s.advance).polls = s.polls := rfl
@[simp] theorem State.advance_abt : (s.advance).abt = s.abt := rfl
@[simp] theorem State.advance_stopIssued : (s.advance).stopIssued = s.stopIssued := rfl
@[simp] theorem State.advance_idx : (s.advance).idx = s.idx := rfl
@[simp] theorem State.advance_ackEn : (s.advance).ackEn = s.ackEn := rfl
@[simp] theorem State.advance_pos : (s.advance).pos = s.pos := rfl
@[simp] theorem State.advance_mem : (s.advance).mem = s.mem := rfl
@[simp] theorem State.advance_cfg : (s.advance).cfg = s.cfg := rfl
@[simp] theorem State.advance_inp : (s.advance).inp = s.inp := rfl
@[simp] theorem State.advance_port : (s.advance).port = s.port := rfl
@[simp] theorem State.advance_rdata : (s.advance).rdata = s.rdata := rfl
@[simp] theorem State.advance_script : (s.advance).script = s.script := rfl
@[simp] theorem State.advance_tick : (s.advance).tick = s.tick := rfl
@[simp] theorem State.advance_pay : (s.advance).pay = s.pay := rfl
@[simp] theorem State.advance_actions : (s.advance).actions = s.actions := rfl
@[simp] theorem State.advance_records : (s.advance).records = s.records := rfl
@[simp] theorem State.advance_received : (s.advance).received = s.received := rfl
end

/-! ### `State.sample` -/

section
variable (s : State)

@[simp] theorem State.sample_busy : (s.sample).busy = s.busy := rfl
@[simp] theorem State.sample_done : (s.sample).done = s.done := rfl
@[simp] theorem State.sample_cmderr : (s.sample).cmderr = s.cmderr := rfl
@[simp] theorem State.sample_hosterr : (s.sample).hosterr = s.hosterr := rfl
@[simp] theorem State.sample_timeout : (s.sample).timeout = s.timeout := rfl
@[simp] theorem State.sample_cause : (s.sample).cause = s.cause := rfl
@[simp] theorem State.sample_lastto : (s.sample).lastto = s.lastto := rfl
@[simp] theorem State.sample_cmd : (s.sample).cmd = s.cmd := rfl
@[simp] theorem State.sample_upc : (s.sample).upc = s.upc := rfl
@[simp] theorem State.sample_polls : (s.sample).polls = s.polls := rfl
@[simp] theorem State.sample_abt : (s.sample).abt = s.abt := rfl
@[simp] theorem State.sample_stopIssued : (s.sample).stopIssued = s.stopIssued := rfl
@[simp] theorem State.sample_idx : (s.sample).idx = s.idx := rfl
@[simp] theorem State.sample_ackEn : (s.sample).ackEn = s.ackEn := rfl
@[simp] theorem State.sample_pos : (s.sample).pos = s.pos := rfl
@[simp] theorem State.sample_mem : (s.sample).mem = s.mem := rfl
@[simp] theorem State.sample_cfg : (s.sample).cfg = s.cfg := rfl
@[simp] theorem State.sample_inp : (s.sample).inp = s.nextInput := rfl
@[simp] theorem State.sample_port : (s.sample).port = ⟨0#4, 0#8⟩ := rfl
@[simp] theorem State.sample_rdata : (s.sample).rdata = s.rdata := rfl
@[simp] theorem State.sample_script : (s.sample).script = s.script.tail := rfl
@[simp] theorem State.sample_tick : (s.sample).tick = s.tick + 1 := rfl
@[simp] theorem State.sample_pay : (s.sample).pay = s.pay := rfl
@[simp] theorem State.sample_actions : (s.sample).actions = s.actions := rfl
@[simp] theorem State.sample_records : (s.sample).records = s.records := rfl
@[simp] theorem State.sample_received : (s.sample).received = s.received := rfl
end

/-! ### `State.hostError` -/

section
variable (s : State) (c : BitVec 4)

@[simp] theorem State.hostError_busy : (s.hostError c).busy = s.busy := rfl
@[simp] theorem State.hostError_done : (s.hostError c).done = s.done := rfl
@[simp] theorem State.hostError_cmderr : (s.hostError c).cmderr = s.cmderr := rfl
@[simp] theorem State.hostError_hosterr : (s.hostError c).hosterr = true := rfl
@[simp] theorem State.hostError_timeout : (s.hostError c).timeout = s.timeout := rfl
@[simp] theorem State.hostError_cause : (s.hostError c).cause = c := rfl
@[simp] theorem State.hostError_lastto : (s.hostError c).lastto = s.lastto := rfl
@[simp] theorem State.hostError_cmd : (s.hostError c).cmd = s.cmd := rfl
@[simp] theorem State.hostError_upc : (s.hostError c).upc = s.upc := rfl
@[simp] theorem State.hostError_polls : (s.hostError c).polls = s.polls := rfl
@[simp] theorem State.hostError_abt : (s.hostError c).abt = s.abt := rfl
@[simp] theorem State.hostError_stopIssued : (s.hostError c).stopIssued = s.stopIssued := rfl
@[simp] theorem State.hostError_idx : (s.hostError c).idx = s.idx := rfl
@[simp] theorem State.hostError_ackEn : (s.hostError c).ackEn = s.ackEn := rfl
@[simp] theorem State.hostError_pos : (s.hostError c).pos = s.pos := rfl
@[simp] theorem State.hostError_mem : (s.hostError c).mem = s.mem := rfl
@[simp] theorem State.hostError_cfg : (s.hostError c).cfg = s.cfg := rfl
@[simp] theorem State.hostError_inp : (s.hostError c).inp = s.inp := rfl
@[simp] theorem State.hostError_port : (s.hostError c).port = s.port := rfl
@[simp] theorem State.hostError_rdata : (s.hostError c).rdata = s.rdata := rfl
@[simp] theorem State.hostError_script : (s.hostError c).script = s.script := rfl
@[simp] theorem State.hostError_tick : (s.hostError c).tick = s.tick := rfl
@[simp] theorem State.hostError_pay : (s.hostError c).pay = s.pay := rfl
@[simp] theorem State.hostError_actions : (s.hostError c).actions = s.actions := rfl
@[simp] theorem State.hostError_records : (s.hostError c).records = s.records := rfl
@[simp] theorem State.hostError_received : (s.hostError c).received = s.received := rfl
end

/-! ### `State.cmdError` -/

section
variable (s : State) (c : BitVec 4)

@[simp] theorem State.cmdError_busy : (s.cmdError c).busy = s.busy := rfl
@[simp] theorem State.cmdError_done : (s.cmdError c).done = s.done := rfl
@[simp] theorem State.cmdError_cmderr : (s.cmdError c).cmderr = true := rfl
@[simp] theorem State.cmdError_hosterr : (s.cmdError c).hosterr = s.hosterr := rfl
@[simp] theorem State.cmdError_timeout : (s.cmdError c).timeout = s.timeout := rfl
@[simp] theorem State.cmdError_cause : (s.cmdError c).cause = c := rfl
@[simp] theorem State.cmdError_lastto : (s.cmdError c).lastto = s.lastto := rfl
@[simp] theorem State.cmdError_cmd : (s.cmdError c).cmd = s.cmd := rfl
@[simp] theorem State.cmdError_upc : (s.cmdError c).upc = s.upc := rfl
@[simp] theorem State.cmdError_polls : (s.cmdError c).polls = s.polls := rfl
@[simp] theorem State.cmdError_abt : (s.cmdError c).abt = s.abt := rfl
@[simp] theorem State.cmdError_stopIssued : (s.cmdError c).stopIssued = s.stopIssued := rfl
@[simp] theorem State.cmdError_idx : (s.cmdError c).idx = s.idx := rfl
@[simp] theorem State.cmdError_ackEn : (s.cmdError c).ackEn = s.ackEn := rfl
@[simp] theorem State.cmdError_pos : (s.cmdError c).pos = s.pos := rfl
@[simp] theorem State.cmdError_mem : (s.cmdError c).mem = s.mem := rfl
@[simp] theorem State.cmdError_cfg : (s.cmdError c).cfg = s.cfg := rfl
@[simp] theorem State.cmdError_inp : (s.cmdError c).inp = s.inp := rfl
@[simp] theorem State.cmdError_port : (s.cmdError c).port = s.port := rfl
@[simp] theorem State.cmdError_rdata : (s.cmdError c).rdata = s.rdata := rfl
@[simp] theorem State.cmdError_script : (s.cmdError c).script = s.script := rfl
@[simp] theorem State.cmdError_tick : (s.cmdError c).tick = s.tick := rfl
@[simp] theorem State.cmdError_pay : (s.cmdError c).pay = s.pay := rfl
@[simp] theorem State.cmdError_actions : (s.cmdError c).actions = s.actions := rfl
@[simp] theorem State.cmdError_records : (s.cmdError c).records = s.records := rfl
@[simp] theorem State.cmdError_received : (s.cmdError c).received = s.received := rfl
end

/-! ### `State.accept` -/

section
variable (s : State) (w : Word)

@[simp] theorem State.accept_busy : (s.accept w).busy = true := rfl
@[simp] theorem State.accept_done : (s.accept w).done = false := rfl
@[simp] theorem State.accept_cmderr : (s.accept w).cmderr = s.cmderr := rfl
@[simp] theorem State.accept_hosterr : (s.accept w).hosterr = s.hosterr := rfl
@[simp] theorem State.accept_timeout : (s.accept w).timeout = s.timeout := rfl
@[simp] theorem State.accept_cause : (s.accept w).cause = s.cause := rfl
@[simp] theorem State.accept_lastto : (s.accept w).lastto = s.lastto := rfl
@[simp] theorem State.accept_cmd : (s.accept w).cmd = w := rfl
@[simp] theorem State.accept_upc : (s.accept w).upc = 0#10 := rfl
@[simp] theorem State.accept_polls : (s.accept w).polls = 0 := rfl
@[simp] theorem State.accept_abt : (s.accept w).abt = .none := rfl
@[simp] theorem State.accept_stopIssued : (s.accept w).stopIssued = false := rfl
@[simp] theorem State.accept_idx : (s.accept w).idx = 0#8 := rfl
@[simp] theorem State.accept_ackEn : (s.accept w).ackEn = s.ackEn := rfl
@[simp] theorem State.accept_pos : (s.accept w).pos = s.pos := rfl
@[simp] theorem State.accept_mem : (s.accept w).mem = s.mem := rfl
@[simp] theorem State.accept_cfg : (s.accept w).cfg = s.cfg := rfl
@[simp] theorem State.accept_inp : (s.accept w).inp = s.inp := rfl
@[simp] theorem State.accept_port : (s.accept w).port = s.port := rfl
@[simp] theorem State.accept_rdata : (s.accept w).rdata = s.rdata := rfl
@[simp] theorem State.accept_script : (s.accept w).script = s.script := rfl
@[simp] theorem State.accept_tick : (s.accept w).tick = s.tick := rfl
@[simp] theorem State.accept_pay : (s.accept w).pay = s.tick := rfl
@[simp] theorem State.accept_actions : (s.accept w).actions = [] := rfl
@[simp] theorem State.accept_records : (s.accept w).records = [] := rfl
@[simp] theorem State.accept_received : (s.accept w).received = [] := rfl
end

/-! ### `State.complete` -/

section
variable (s : State)

@[simp] theorem State.complete_busy : (s.complete).busy = false := rfl
@[simp] theorem State.complete_done : (s.complete).done = true := rfl
@[simp] theorem State.complete_cmderr : (s.complete).cmderr = s.cmderr := rfl
@[simp] theorem State.complete_hosterr : (s.complete).hosterr = s.hosterr := rfl
@[simp] theorem State.complete_timeout : (s.complete).timeout = s.timeout := rfl
@[simp] theorem State.complete_cause : (s.complete).cause = s.cause := rfl
@[simp] theorem State.complete_lastto : (s.complete).lastto = s.lastto := rfl
@[simp] theorem State.complete_cmd : (s.complete).cmd = s.cmd := rfl
@[simp] theorem State.complete_upc : (s.complete).upc = 0#10 := rfl
@[simp] theorem State.complete_polls : (s.complete).polls = 0 := rfl
@[simp] theorem State.complete_abt : (s.complete).abt = s.abt := rfl
@[simp] theorem State.complete_stopIssued : (s.complete).stopIssued = s.stopIssued := rfl
@[simp] theorem State.complete_idx : (s.complete).idx = s.idx := rfl
@[simp] theorem State.complete_ackEn : (s.complete).ackEn = s.ackEn := rfl
@[simp] theorem State.complete_pos : (s.complete).pos = s.pos := rfl
@[simp] theorem State.complete_mem : (s.complete).mem = s.mem := rfl
@[simp] theorem State.complete_cfg : (s.complete).cfg = s.cfg := rfl
@[simp] theorem State.complete_inp : (s.complete).inp = s.inp := rfl
@[simp] theorem State.complete_port : (s.complete).port = s.port := rfl
@[simp] theorem State.complete_rdata : (s.complete).rdata = s.rdata := rfl
@[simp] theorem State.complete_script : (s.complete).script = s.script := rfl
@[simp] theorem State.complete_tick : (s.complete).tick = s.tick := rfl
@[simp] theorem State.complete_pay : (s.complete).pay = s.pay := rfl
@[simp] theorem State.complete_actions : (s.complete).actions = s.actions := rfl
@[simp] theorem State.complete_records : (s.complete).records = s.records := rfl
@[simp] theorem State.complete_received : (s.complete).received = s.received := rfl
end

/-! ### `State.abortBegin` -/

section
variable (s : State) (c : BitVec 4)

@[simp] theorem State.abortBegin_busy : (s.abortBegin c).busy = s.busy := rfl
@[simp] theorem State.abortBegin_done : (s.abortBegin c).done = s.done := rfl
@[simp] theorem State.abortBegin_cmderr : (s.abortBegin c).cmderr = s.cmderr := rfl
@[simp] theorem State.abortBegin_hosterr : (s.abortBegin c).hosterr = s.hosterr := rfl
@[simp] theorem State.abortBegin_timeout : (s.abortBegin c).timeout = s.timeout := rfl
@[simp] theorem State.abortBegin_cause : (s.abortBegin c).cause = 7#4 := rfl
@[simp] theorem State.abortBegin_lastto : (s.abortBegin c).lastto = c := rfl
@[simp] theorem State.abortBegin_cmd : (s.abortBegin c).cmd = s.cmd := rfl
@[simp] theorem State.abortBegin_upc : (s.abortBegin c).upc = s.upc := rfl
@[simp] theorem State.abortBegin_polls : (s.abortBegin c).polls = 0 := rfl
@[simp] theorem State.abortBegin_abt : (s.abortBegin c).abt = if s.stopIssued then .posOff else .stop := rfl
@[simp] theorem State.abortBegin_stopIssued : (s.abortBegin c).stopIssued = s.stopIssued := rfl
@[simp] theorem State.abortBegin_idx : (s.abortBegin c).idx = s.idx := rfl
@[simp] theorem State.abortBegin_ackEn : (s.abortBegin c).ackEn = s.ackEn := rfl
@[simp] theorem State.abortBegin_pos : (s.abortBegin c).pos = s.pos := rfl
@[simp] theorem State.abortBegin_mem : (s.abortBegin c).mem = s.mem := rfl
@[simp] theorem State.abortBegin_cfg : (s.abortBegin c).cfg = s.cfg := rfl
@[simp] theorem State.abortBegin_inp : (s.abortBegin c).inp = s.inp := rfl
@[simp] theorem State.abortBegin_port : (s.abortBegin c).port = s.port := rfl
@[simp] theorem State.abortBegin_rdata : (s.abortBegin c).rdata = s.rdata := rfl
@[simp] theorem State.abortBegin_script : (s.abortBegin c).script = s.script := rfl
@[simp] theorem State.abortBegin_tick : (s.abortBegin c).tick = s.tick := rfl
@[simp] theorem State.abortBegin_pay : (s.abortBegin c).pay = s.pay := rfl
@[simp] theorem State.abortBegin_actions : (s.abortBegin c).actions = s.actions := rfl
@[simp] theorem State.abortBegin_records : (s.abortBegin c).records = s.records := rfl
@[simp] theorem State.abortBegin_received : (s.abortBegin c).received = s.received := rfl
end

/-! ### `State.abortComplete` -/

section
variable (s : State)

@[simp] theorem State.abortComplete_busy : (s.abortComplete).busy = false := rfl
@[simp] theorem State.abortComplete_done : (s.abortComplete).done = true := rfl
@[simp] theorem State.abortComplete_cmderr : (s.abortComplete).cmderr = s.cmderr := rfl
@[simp] theorem State.abortComplete_hosterr : (s.abortComplete).hosterr = s.hosterr := rfl
@[simp] theorem State.abortComplete_timeout : (s.abortComplete).timeout = true := rfl
@[simp] theorem State.abortComplete_cause : (s.abortComplete).cause = s.cause := rfl
@[simp] theorem State.abortComplete_lastto : (s.abortComplete).lastto = s.lastto := rfl
@[simp] theorem State.abortComplete_cmd : (s.abortComplete).cmd = s.cmd := rfl
@[simp] theorem State.abortComplete_upc : (s.abortComplete).upc = 0#10 := rfl
@[simp] theorem State.abortComplete_polls : (s.abortComplete).polls = s.polls := rfl
@[simp] theorem State.abortComplete_abt : (s.abortComplete).abt = s.abt := rfl
@[simp] theorem State.abortComplete_stopIssued : (s.abortComplete).stopIssued = s.stopIssued := rfl
@[simp] theorem State.abortComplete_idx : (s.abortComplete).idx = s.idx := rfl
@[simp] theorem State.abortComplete_ackEn : (s.abortComplete).ackEn = s.ackEn := rfl
@[simp] theorem State.abortComplete_pos : (s.abortComplete).pos = s.pos := rfl
@[simp] theorem State.abortComplete_mem : (s.abortComplete).mem = s.mem := rfl
@[simp] theorem State.abortComplete_cfg : (s.abortComplete).cfg = s.cfg := rfl
@[simp] theorem State.abortComplete_inp : (s.abortComplete).inp = s.inp := rfl
@[simp] theorem State.abortComplete_port : (s.abortComplete).port = s.port := rfl
@[simp] theorem State.abortComplete_rdata : (s.abortComplete).rdata = s.rdata := rfl
@[simp] theorem State.abortComplete_script : (s.abortComplete).script = s.script := rfl
@[simp] theorem State.abortComplete_tick : (s.abortComplete).tick = s.tick := rfl
@[simp] theorem State.abortComplete_pay : (s.abortComplete).pay = s.pay := rfl
@[simp] theorem State.abortComplete_actions : (s.abortComplete).actions = s.actions := rfl
@[simp] theorem State.abortComplete_records : (s.abortComplete).records = s.records := rfl
@[simp] theorem State.abortComplete_received : (s.abortComplete).received = s.received := rfl
end

/-! ### `State.writeByte` -/

section
variable (s : State) (j : Nat) (v : Byte)

@[simp] theorem State.writeByte_busy : (s.writeByte j v).busy = s.busy := rfl
@[simp] theorem State.writeByte_done : (s.writeByte j v).done = s.done := rfl
@[simp] theorem State.writeByte_cmderr : (s.writeByte j v).cmderr = s.cmderr := rfl
@[simp] theorem State.writeByte_hosterr : (s.writeByte j v).hosterr = s.hosterr := rfl
@[simp] theorem State.writeByte_timeout : (s.writeByte j v).timeout = s.timeout := rfl
@[simp] theorem State.writeByte_cause : (s.writeByte j v).cause = s.cause := rfl
@[simp] theorem State.writeByte_lastto : (s.writeByte j v).lastto = s.lastto := rfl
@[simp] theorem State.writeByte_cmd : (s.writeByte j v).cmd = s.cmd := rfl
@[simp] theorem State.writeByte_upc : (s.writeByte j v).upc = s.upc := rfl
@[simp] theorem State.writeByte_polls : (s.writeByte j v).polls = s.polls := rfl
@[simp] theorem State.writeByte_abt : (s.writeByte j v).abt = s.abt := rfl
@[simp] theorem State.writeByte_stopIssued : (s.writeByte j v).stopIssued = s.stopIssued := rfl
@[simp] theorem State.writeByte_idx : (s.writeByte j v).idx = s.idx := rfl
@[simp] theorem State.writeByte_ackEn : (s.writeByte j v).ackEn = s.ackEn := rfl
@[simp] theorem State.writeByte_pos : (s.writeByte j v).pos = s.pos := rfl
@[simp] theorem State.writeByte_mem : (s.writeByte j v).mem = Memory.write s.mem j v := rfl
@[simp] theorem State.writeByte_cfg : (s.writeByte j v).cfg = s.cfg := rfl
@[simp] theorem State.writeByte_inp : (s.writeByte j v).inp = s.inp := rfl
@[simp] theorem State.writeByte_port : (s.writeByte j v).port = s.port := rfl
@[simp] theorem State.writeByte_rdata : (s.writeByte j v).rdata = s.rdata := rfl
@[simp] theorem State.writeByte_script : (s.writeByte j v).script = s.script := rfl
@[simp] theorem State.writeByte_tick : (s.writeByte j v).tick = s.tick := rfl
@[simp] theorem State.writeByte_pay : (s.writeByte j v).pay = s.pay := rfl
@[simp] theorem State.writeByte_actions : (s.writeByte j v).actions = s.actions := rfl
@[simp] theorem State.writeByte_records : (s.writeByte j v).records = s.records := rfl
@[simp] theorem State.writeByte_received : (s.writeByte j v).received = s.received := rfl
end

/-! ### `State.statusWrite` -/

section
variable (s : State) (w : Word)

@[simp] theorem State.statusWrite_busy : (s.statusWrite w).busy = s.busy := rfl
@[simp] theorem State.statusWrite_done : (s.statusWrite w).done = (s.done && !w.getLsbD 1) := rfl
@[simp] theorem State.statusWrite_cmderr : (s.statusWrite w).cmderr = (s.cmderr && !w.getLsbD 2) := rfl
@[simp] theorem State.statusWrite_hosterr : (s.statusWrite w).hosterr = (s.hosterr && !w.getLsbD 3) := rfl
@[simp] theorem State.statusWrite_timeout : (s.statusWrite w).timeout = (s.timeout && !w.getLsbD 4) := rfl
@[simp] theorem State.statusWrite_cause : (s.statusWrite w).cause = s.cause := rfl
@[simp] theorem State.statusWrite_lastto : (s.statusWrite w).lastto = s.lastto := rfl
@[simp] theorem State.statusWrite_cmd : (s.statusWrite w).cmd = s.cmd := rfl
@[simp] theorem State.statusWrite_upc : (s.statusWrite w).upc = s.upc := rfl
@[simp] theorem State.statusWrite_polls : (s.statusWrite w).polls = s.polls := rfl
@[simp] theorem State.statusWrite_abt : (s.statusWrite w).abt = s.abt := rfl
@[simp] theorem State.statusWrite_stopIssued : (s.statusWrite w).stopIssued = s.stopIssued := rfl
@[simp] theorem State.statusWrite_idx : (s.statusWrite w).idx = s.idx := rfl
@[simp] theorem State.statusWrite_ackEn : (s.statusWrite w).ackEn = s.ackEn := rfl
@[simp] theorem State.statusWrite_pos : (s.statusWrite w).pos = s.pos := rfl
@[simp] theorem State.statusWrite_mem : (s.statusWrite w).mem = s.mem := rfl
@[simp] theorem State.statusWrite_cfg : (s.statusWrite w).cfg = s.cfg := rfl
@[simp] theorem State.statusWrite_inp : (s.statusWrite w).inp = s.inp := rfl
@[simp] theorem State.statusWrite_port : (s.statusWrite w).port = s.port := rfl
@[simp] theorem State.statusWrite_rdata : (s.statusWrite w).rdata = s.rdata := rfl
@[simp] theorem State.statusWrite_script : (s.statusWrite w).script = s.script := rfl
@[simp] theorem State.statusWrite_tick : (s.statusWrite w).tick = s.tick := rfl
@[simp] theorem State.statusWrite_pay : (s.statusWrite w).pay = s.pay := rfl
@[simp] theorem State.statusWrite_actions : (s.statusWrite w).actions = s.actions := rfl
@[simp] theorem State.statusWrite_records : (s.statusWrite w).records = s.records := rfl
@[simp] theorem State.statusWrite_received : (s.statusWrite w).received = s.received := rfl
end

/-! ### `State.applyReset` -/

section
variable (s : State)

@[simp] theorem State.applyReset_busy : (s.applyReset).busy = false := rfl
@[simp] theorem State.applyReset_done : (s.applyReset).done = false := rfl
@[simp] theorem State.applyReset_cmderr : (s.applyReset).cmderr = false := rfl
@[simp] theorem State.applyReset_hosterr : (s.applyReset).hosterr = false := rfl
@[simp] theorem State.applyReset_timeout : (s.applyReset).timeout = false := rfl
@[simp] theorem State.applyReset_cause : (s.applyReset).cause = 0#4 := rfl
@[simp] theorem State.applyReset_lastto : (s.applyReset).lastto = 0#4 := rfl
@[simp] theorem State.applyReset_cmd : (s.applyReset).cmd = 0#32 := rfl
@[simp] theorem State.applyReset_upc : (s.applyReset).upc = 0#10 := rfl
@[simp] theorem State.applyReset_polls : (s.applyReset).polls = 0 := rfl
@[simp] theorem State.applyReset_abt : (s.applyReset).abt = .none := rfl
@[simp] theorem State.applyReset_stopIssued : (s.applyReset).stopIssued = false := rfl
@[simp] theorem State.applyReset_idx : (s.applyReset).idx = 0#8 := rfl
@[simp] theorem State.applyReset_ackEn : (s.applyReset).ackEn = true := rfl
@[simp] theorem State.applyReset_pos : (s.applyReset).pos = false := rfl
@[simp] theorem State.applyReset_mem : (s.applyReset).mem = [] := rfl
@[simp] theorem State.applyReset_cfg : (s.applyReset).cfg = s.cfg := rfl
@[simp] theorem State.applyReset_inp : (s.applyReset).inp = s.inp := rfl
@[simp] theorem State.applyReset_port : (s.applyReset).port = ⟨0#4, 0#8⟩ := rfl
@[simp] theorem State.applyReset_rdata : (s.applyReset).rdata = s.rdata := rfl
@[simp] theorem State.applyReset_script : (s.applyReset).script = s.script := rfl
@[simp] theorem State.applyReset_tick : (s.applyReset).tick = s.tick := rfl
@[simp] theorem State.applyReset_pay : (s.applyReset).pay = s.pay := rfl
@[simp] theorem State.applyReset_actions : (s.applyReset).actions = [] := rfl
@[simp] theorem State.applyReset_records : (s.applyReset).records = [] := rfl
@[simp] theorem State.applyReset_received : (s.applyReset).received = [] := rfl
end

/-! ### `State.setAckEn` -/

section
variable (s : State) (b : Bool)

@[simp] theorem State.setAckEn_busy : (s.setAckEn b).busy = s.busy := rfl
@[simp] theorem State.setAckEn_done : (s.setAckEn b).done = s.done := rfl
@[simp] theorem State.setAckEn_cmderr : (s.setAckEn b).cmderr = s.cmderr := rfl
@[simp] theorem State.setAckEn_hosterr : (s.setAckEn b).hosterr = s.hosterr := rfl
@[simp] theorem State.setAckEn_timeout : (s.setAckEn b).timeout = s.timeout := rfl
@[simp] theorem State.setAckEn_cause : (s.setAckEn b).cause = s.cause := rfl
@[simp] theorem State.setAckEn_lastto : (s.setAckEn b).lastto = s.lastto := rfl
@[simp] theorem State.setAckEn_cmd : (s.setAckEn b).cmd = s.cmd := rfl
@[simp] theorem State.setAckEn_upc : (s.setAckEn b).upc = s.upc := rfl
@[simp] theorem State.setAckEn_polls : (s.setAckEn b).polls = s.polls := rfl
@[simp] theorem State.setAckEn_abt : (s.setAckEn b).abt = s.abt := rfl
@[simp] theorem State.setAckEn_stopIssued : (s.setAckEn b).stopIssued = s.stopIssued := rfl
@[simp] theorem State.setAckEn_idx : (s.setAckEn b).idx = s.idx := rfl
@[simp] theorem State.setAckEn_ackEn : (s.setAckEn b).ackEn = b := rfl
@[simp] theorem State.setAckEn_pos : (s.setAckEn b).pos = s.pos := rfl
@[simp] theorem State.setAckEn_mem : (s.setAckEn b).mem = s.mem := rfl
@[simp] theorem State.setAckEn_cfg : (s.setAckEn b).cfg = s.cfg := rfl
@[simp] theorem State.setAckEn_inp : (s.setAckEn b).inp = s.inp := rfl
@[simp] theorem State.setAckEn_port : (s.setAckEn b).port = s.port := rfl
@[simp] theorem State.setAckEn_rdata : (s.setAckEn b).rdata = s.rdata := rfl
@[simp] theorem State.setAckEn_script : (s.setAckEn b).script = s.script := rfl
@[simp] theorem State.setAckEn_tick : (s.setAckEn b).tick = s.tick := rfl
@[simp] theorem State.setAckEn_pay : (s.setAckEn b).pay = s.pay := rfl
@[simp] theorem State.setAckEn_actions : (s.setAckEn b).actions = s.actions := rfl
@[simp] theorem State.setAckEn_records : (s.setAckEn b).records = s.records := rfl
@[simp] theorem State.setAckEn_received : (s.setAckEn b).received = s.received := rfl
end

/-! ### `State.setPos` -/

section
variable (s : State) (b : Bool)

@[simp] theorem State.setPos_busy : (s.setPos b).busy = s.busy := rfl
@[simp] theorem State.setPos_done : (s.setPos b).done = s.done := rfl
@[simp] theorem State.setPos_cmderr : (s.setPos b).cmderr = s.cmderr := rfl
@[simp] theorem State.setPos_hosterr : (s.setPos b).hosterr = s.hosterr := rfl
@[simp] theorem State.setPos_timeout : (s.setPos b).timeout = s.timeout := rfl
@[simp] theorem State.setPos_cause : (s.setPos b).cause = s.cause := rfl
@[simp] theorem State.setPos_lastto : (s.setPos b).lastto = s.lastto := rfl
@[simp] theorem State.setPos_cmd : (s.setPos b).cmd = s.cmd := rfl
@[simp] theorem State.setPos_upc : (s.setPos b).upc = s.upc := rfl
@[simp] theorem State.setPos_polls : (s.setPos b).polls = s.polls := rfl
@[simp] theorem State.setPos_abt : (s.setPos b).abt = s.abt := rfl
@[simp] theorem State.setPos_stopIssued : (s.setPos b).stopIssued = s.stopIssued := rfl
@[simp] theorem State.setPos_idx : (s.setPos b).idx = s.idx := rfl
@[simp] theorem State.setPos_ackEn : (s.setPos b).ackEn = s.ackEn := rfl
@[simp] theorem State.setPos_pos : (s.setPos b).pos = b := rfl
@[simp] theorem State.setPos_mem : (s.setPos b).mem = s.mem := rfl
@[simp] theorem State.setPos_cfg : (s.setPos b).cfg = s.cfg := rfl
@[simp] theorem State.setPos_inp : (s.setPos b).inp = s.inp := rfl
@[simp] theorem State.setPos_port : (s.setPos b).port = s.port := rfl
@[simp] theorem State.setPos_rdata : (s.setPos b).rdata = s.rdata := rfl
@[simp] theorem State.setPos_script : (s.setPos b).script = s.script := rfl
@[simp] theorem State.setPos_tick : (s.setPos b).tick = s.tick := rfl
@[simp] theorem State.setPos_pay : (s.setPos b).pay = s.pay := rfl
@[simp] theorem State.setPos_actions : (s.setPos b).actions = s.actions := rfl
@[simp] theorem State.setPos_records : (s.setPos b).records = s.records := rfl
@[simp] theorem State.setPos_received : (s.setPos b).received = s.received := rfl
end

/-! ### `State.markStop` -/

section
variable (s : State)

@[simp] theorem State.markStop_busy : (s.markStop).busy = s.busy := rfl
@[simp] theorem State.markStop_done : (s.markStop).done = s.done := rfl
@[simp] theorem State.markStop_cmderr : (s.markStop).cmderr = s.cmderr := rfl
@[simp] theorem State.markStop_hosterr : (s.markStop).hosterr = s.hosterr := rfl
@[simp] theorem State.markStop_timeout : (s.markStop).timeout = s.timeout := rfl
@[simp] theorem State.markStop_cause : (s.markStop).cause = s.cause := rfl
@[simp] theorem State.markStop_lastto : (s.markStop).lastto = s.lastto := rfl
@[simp] theorem State.markStop_cmd : (s.markStop).cmd = s.cmd := rfl
@[simp] theorem State.markStop_upc : (s.markStop).upc = s.upc := rfl
@[simp] theorem State.markStop_polls : (s.markStop).polls = s.polls := rfl
@[simp] theorem State.markStop_abt : (s.markStop).abt = s.abt := rfl
@[simp] theorem State.markStop_stopIssued : (s.markStop).stopIssued = true := rfl
@[simp] theorem State.markStop_idx : (s.markStop).idx = s.idx := rfl
@[simp] theorem State.markStop_ackEn : (s.markStop).ackEn = s.ackEn := rfl
@[simp] theorem State.markStop_pos : (s.markStop).pos = s.pos := rfl
@[simp] theorem State.markStop_mem : (s.markStop).mem = s.mem := rfl
@[simp] theorem State.markStop_cfg : (s.markStop).cfg = s.cfg := rfl
@[simp] theorem State.markStop_inp : (s.markStop).inp = s.inp := rfl
@[simp] theorem State.markStop_port : (s.markStop).port = s.port := rfl
@[simp] theorem State.markStop_rdata : (s.markStop).rdata = s.rdata := rfl
@[simp] theorem State.markStop_script : (s.markStop).script = s.script := rfl
@[simp] theorem State.markStop_tick : (s.markStop).tick = s.tick := rfl
@[simp] theorem State.markStop_pay : (s.markStop).pay = s.pay := rfl
@[simp] theorem State.markStop_actions : (s.markStop).actions = s.actions := rfl
@[simp] theorem State.markStop_records : (s.markStop).records = s.records := rfl
@[simp] theorem State.markStop_received : (s.markStop).received = s.received := rfl
end

/-! ### `State.setPolls` -/

section
variable (s : State) (n : Nat)

@[simp] theorem State.setPolls_busy : (s.setPolls n).busy = s.busy := rfl
@[simp] theorem State.setPolls_done : (s.setPolls n).done = s.done := rfl
@[simp] theorem State.setPolls_cmderr : (s.setPolls n).cmderr = s.cmderr := rfl
@[simp] theorem State.setPolls_hosterr : (s.setPolls n).hosterr = s.hosterr := rfl
@[simp] theorem State.setPolls_timeout : (s.setPolls n).timeout = s.timeout := rfl
@[simp] theorem State.setPolls_cause : (s.setPolls n).cause = s.cause := rfl
@[simp] theorem State.setPolls_lastto : (s.setPolls n).lastto = s.lastto := rfl
@[simp] theorem State.setPolls_cmd : (s.setPolls n).cmd = s.cmd := rfl
@[simp] theorem State.setPolls_upc : (s.setPolls n).upc = s.upc := rfl
@[simp] theorem State.setPolls_polls : (s.setPolls n).polls = n := rfl
@[simp] theorem State.setPolls_abt : (s.setPolls n).abt = s.abt := rfl
@[simp] theorem State.setPolls_stopIssued : (s.setPolls n).stopIssued = s.stopIssued := rfl
@[simp] theorem State.setPolls_idx : (s.setPolls n).idx = s.idx := rfl
@[simp] theorem State.setPolls_ackEn : (s.setPolls n).ackEn = s.ackEn := rfl
@[simp] theorem State.setPolls_pos : (s.setPolls n).pos = s.pos := rfl
@[simp] theorem State.setPolls_mem : (s.setPolls n).mem = s.mem := rfl
@[simp] theorem State.setPolls_cfg : (s.setPolls n).cfg = s.cfg := rfl
@[simp] theorem State.setPolls_inp : (s.setPolls n).inp = s.inp := rfl
@[simp] theorem State.setPolls_port : (s.setPolls n).port = s.port := rfl
@[simp] theorem State.setPolls_rdata : (s.setPolls n).rdata = s.rdata := rfl
@[simp] theorem State.setPolls_script : (s.setPolls n).script = s.script := rfl
@[simp] theorem State.setPolls_tick : (s.setPolls n).tick = s.tick := rfl
@[simp] theorem State.setPolls_pay : (s.setPolls n).pay = s.pay := rfl
@[simp] theorem State.setPolls_actions : (s.setPolls n).actions = s.actions := rfl
@[simp] theorem State.setPolls_records : (s.setPolls n).records = s.records := rfl
@[simp] theorem State.setPolls_received : (s.setPolls n).received = s.received := rfl
end

/-! ### `State.setAbt` -/

section
variable (s : State) (a : Abt)

@[simp] theorem State.setAbt_busy : (s.setAbt a).busy = s.busy := rfl
@[simp] theorem State.setAbt_done : (s.setAbt a).done = s.done := rfl
@[simp] theorem State.setAbt_cmderr : (s.setAbt a).cmderr = s.cmderr := rfl
@[simp] theorem State.setAbt_hosterr : (s.setAbt a).hosterr = s.hosterr := rfl
@[simp] theorem State.setAbt_timeout : (s.setAbt a).timeout = s.timeout := rfl
@[simp] theorem State.setAbt_cause : (s.setAbt a).cause = s.cause := rfl
@[simp] theorem State.setAbt_lastto : (s.setAbt a).lastto = s.lastto := rfl
@[simp] theorem State.setAbt_cmd : (s.setAbt a).cmd = s.cmd := rfl
@[simp] theorem State.setAbt_upc : (s.setAbt a).upc = s.upc := rfl
@[simp] theorem State.setAbt_polls : (s.setAbt a).polls = s.polls := rfl
@[simp] theorem State.setAbt_abt : (s.setAbt a).abt = a := rfl
@[simp] theorem State.setAbt_stopIssued : (s.setAbt a).stopIssued = s.stopIssued := rfl
@[simp] theorem State.setAbt_idx : (s.setAbt a).idx = s.idx := rfl
@[simp] theorem State.setAbt_ackEn : (s.setAbt a).ackEn = s.ackEn := rfl
@[simp] theorem State.setAbt_pos : (s.setAbt a).pos = s.pos := rfl
@[simp] theorem State.setAbt_mem : (s.setAbt a).mem = s.mem := rfl
@[simp] theorem State.setAbt_cfg : (s.setAbt a).cfg = s.cfg := rfl
@[simp] theorem State.setAbt_inp : (s.setAbt a).inp = s.inp := rfl
@[simp] theorem State.setAbt_port : (s.setAbt a).port = s.port := rfl
@[simp] theorem State.setAbt_rdata : (s.setAbt a).rdata = s.rdata := rfl
@[simp] theorem State.setAbt_script : (s.setAbt a).script = s.script := rfl
@[simp] theorem State.setAbt_tick : (s.setAbt a).tick = s.tick := rfl
@[simp] theorem State.setAbt_pay : (s.setAbt a).pay = s.pay := rfl
@[simp] theorem State.setAbt_actions : (s.setAbt a).actions = s.actions := rfl
@[simp] theorem State.setAbt_records : (s.setAbt a).records = s.records := rfl
@[simp] theorem State.setAbt_received : (s.setAbt a).received = s.received := rfl
end

/-! ### `State.countByte` -/

section
variable (s : State)

@[simp] theorem State.countByte_busy : (s.countByte).busy = s.busy := rfl
@[simp] theorem State.countByte_done : (s.countByte).done = s.done := rfl
@[simp] theorem State.countByte_cmderr : (s.countByte).cmderr = s.cmderr := rfl
@[simp] theorem State.countByte_hosterr : (s.countByte).hosterr = s.hosterr := rfl
@[simp] theorem State.countByte_timeout : (s.countByte).timeout = s.timeout := rfl
@[simp] theorem State.countByte_cause : (s.countByte).cause = s.cause := rfl
@[simp] theorem State.countByte_lastto : (s.countByte).lastto = s.lastto := rfl
@[simp] theorem State.countByte_cmd : (s.countByte).cmd = s.cmd := rfl
@[simp] theorem State.countByte_upc : (s.countByte).upc = s.upc := rfl
@[simp] theorem State.countByte_polls : (s.countByte).polls = s.polls := rfl
@[simp] theorem State.countByte_abt : (s.countByte).abt = s.abt := rfl
@[simp] theorem State.countByte_stopIssued : (s.countByte).stopIssued = s.stopIssued := rfl
@[simp] theorem State.countByte_idx : (s.countByte).idx = s.idx + 1#8 := rfl
@[simp] theorem State.countByte_ackEn : (s.countByte).ackEn = s.ackEn := rfl
@[simp] theorem State.countByte_pos : (s.countByte).pos = s.pos := rfl
@[simp] theorem State.countByte_mem : (s.countByte).mem = s.mem := rfl
@[simp] theorem State.countByte_cfg : (s.countByte).cfg = s.cfg := rfl
@[simp] theorem State.countByte_inp : (s.countByte).inp = s.inp := rfl
@[simp] theorem State.countByte_port : (s.countByte).port = s.port := rfl
@[simp] theorem State.countByte_rdata : (s.countByte).rdata = s.rdata := rfl
@[simp] theorem State.countByte_script : (s.countByte).script = s.script := rfl
@[simp] theorem State.countByte_tick : (s.countByte).tick = s.tick := rfl
@[simp] theorem State.countByte_pay : (s.countByte).pay = s.pay := rfl
@[simp] theorem State.countByte_actions : (s.countByte).actions = s.actions := rfl
@[simp] theorem State.countByte_records : (s.countByte).records = s.records := rfl
@[simp] theorem State.countByte_received : (s.countByte).received = s.received := rfl
end

/-! ### `State.noteReceive` -/

section
variable (s : State)

@[simp] theorem State.noteReceive_busy : (s.noteReceive).busy = s.busy := rfl
@[simp] theorem State.noteReceive_done : (s.noteReceive).done = s.done := rfl
@[simp] theorem State.noteReceive_cmderr : (s.noteReceive).cmderr = s.cmderr := rfl
@[simp] theorem State.noteReceive_hosterr : (s.noteReceive).hosterr = s.hosterr := rfl
@[simp] theorem State.noteReceive_timeout : (s.noteReceive).timeout = s.timeout := rfl
@[simp] theorem State.noteReceive_cause : (s.noteReceive).cause = s.cause := rfl
@[simp] theorem State.noteReceive_lastto : (s.noteReceive).lastto = s.lastto := rfl
@[simp] theorem State.noteReceive_cmd : (s.noteReceive).cmd = s.cmd := rfl
@[simp] theorem State.noteReceive_upc : (s.noteReceive).upc = s.upc := rfl
@[simp] theorem State.noteReceive_polls : (s.noteReceive).polls = s.polls := rfl
@[simp] theorem State.noteReceive_abt : (s.noteReceive).abt = s.abt := rfl
@[simp] theorem State.noteReceive_stopIssued : (s.noteReceive).stopIssued = s.stopIssued := rfl
@[simp] theorem State.noteReceive_idx : (s.noteReceive).idx = s.idx := rfl
@[simp] theorem State.noteReceive_ackEn : (s.noteReceive).ackEn = s.ackEn := rfl
@[simp] theorem State.noteReceive_pos : (s.noteReceive).pos = s.pos := rfl
@[simp] theorem State.noteReceive_mem : (s.noteReceive).mem = s.mem := rfl
@[simp] theorem State.noteReceive_cfg : (s.noteReceive).cfg = s.cfg := rfl
@[simp] theorem State.noteReceive_inp : (s.noteReceive).inp = s.inp := rfl
@[simp] theorem State.noteReceive_port : (s.noteReceive).port = s.port := rfl
@[simp] theorem State.noteReceive_rdata : (s.noteReceive).rdata = s.rdata := rfl
@[simp] theorem State.noteReceive_script : (s.noteReceive).script = s.script := rfl
@[simp] theorem State.noteReceive_tick : (s.noteReceive).tick = s.tick := rfl
@[simp] theorem State.noteReceive_pay : (s.noteReceive).pay = s.pay := rfl
@[simp] theorem State.noteReceive_actions : (s.noteReceive).actions = s.actions := rfl
@[simp] theorem State.noteReceive_records : (s.noteReceive).records = s.records ++ [⟨s.ackEn, s.pos, s.stopIssued⟩] := rfl
@[simp] theorem State.noteReceive_received : (s.noteReceive).received = s.received ++ [s.rx] := rfl
end

/-! ### `State.setRdata` -/

section
variable (s : State) (w : Word)

@[simp] theorem State.setRdata_busy : (s.setRdata w).busy = s.busy := rfl
@[simp] theorem State.setRdata_done : (s.setRdata w).done = s.done := rfl
@[simp] theorem State.setRdata_cmderr : (s.setRdata w).cmderr = s.cmderr := rfl
@[simp] theorem State.setRdata_hosterr : (s.setRdata w).hosterr = s.hosterr := rfl
@[simp] theorem State.setRdata_timeout : (s.setRdata w).timeout = s.timeout := rfl
@[simp] theorem State.setRdata_cause : (s.setRdata w).cause = s.cause := rfl
@[simp] theorem State.setRdata_lastto : (s.setRdata w).lastto = s.lastto := rfl
@[simp] theorem State.setRdata_cmd : (s.setRdata w).cmd = s.cmd := rfl
@[simp] theorem State.setRdata_upc : (s.setRdata w).upc = s.upc := rfl
@[simp] theorem State.setRdata_polls : (s.setRdata w).polls = s.polls := rfl
@[simp] theorem State.setRdata_abt : (s.setRdata w).abt = s.abt := rfl
@[simp] theorem State.setRdata_stopIssued : (s.setRdata w).stopIssued = s.stopIssued := rfl
@[simp] theorem State.setRdata_idx : (s.setRdata w).idx = s.idx := rfl
@[simp] theorem State.setRdata_ackEn : (s.setRdata w).ackEn = s.ackEn := rfl
@[simp] theorem State.setRdata_pos : (s.setRdata w).pos = s.pos := rfl
@[simp] theorem State.setRdata_mem : (s.setRdata w).mem = s.mem := rfl
@[simp] theorem State.setRdata_cfg : (s.setRdata w).cfg = s.cfg := rfl
@[simp] theorem State.setRdata_inp : (s.setRdata w).inp = s.inp := rfl
@[simp] theorem State.setRdata_port : (s.setRdata w).port = s.port := rfl
@[simp] theorem State.setRdata_rdata : (s.setRdata w).rdata = w := rfl
@[simp] theorem State.setRdata_script : (s.setRdata w).script = s.script := rfl
@[simp] theorem State.setRdata_tick : (s.setRdata w).tick = s.tick := rfl
@[simp] theorem State.setRdata_pay : (s.setRdata w).pay = s.pay := rfl
@[simp] theorem State.setRdata_actions : (s.setRdata w).actions = s.actions := rfl
@[simp] theorem State.setRdata_records : (s.setRdata w).records = s.records := rfl
@[simp] theorem State.setRdata_received : (s.setRdata w).received = s.received := rfl
end

end Sys2Proof.Machine
end

