-- ==== Sys2Proof/Laws/Step.lean ====
section
/-! SUPPORT. What a step can do, said once. -/
namespace Sys2Proof.Machine

/-- Every instruction answers a next state, in every state. -/
theorem exec_answers (i : Instr) (s : State) : ∃ t, exec i s = .next t := by
  cases i <;> exact ⟨_, rfl⟩

/-- A command issue answers a next state. -/
theorem issue_answers (w : Word) (s : State) : ∃ t, issue w s = .next t := by
  unfold issue
  split
  · exact exec_answers _ s
  · exact ⟨_, rfl⟩

/-- A host access answers a next state. -/
theorem hostAccess_answers (a : Access) (s : State) : ∃ t, hostAccess a s = .next t := by
  cases a with
  | read off n => exact ⟨_, rfl⟩
  | write off n v =>
    simp only [hostAccess, hostWrite]
    repeat' split
    all_goals first | exact ⟨_, rfl⟩ | exact issue_answers v s

/-- What an engine micro-op can do: it is fetched, decoded, executed, and retired. -/
theorem runMicroOp_next {s t : State} (h : runMicroOp s = .next t) :
    ∃ u i r, s.fetch = some u ∧ decode (.micro u) = .ok i ∧ exec i s = .next r ∧ t = r.retire := by
  unfold runMicroOp at h
  split at h
  · cases h
  · rename_i u hu
    split at h
    · cases h
    · rename_i i hi
      split at h
      · rename_i r hr
        cases h
        exact ⟨u, i, r, hu, hi, hr, rfl⟩
      · cases h
      · cases h

/-- Everything a step that answers a next state can be. -/
theorem step_cases {s t : State} (h : step s = .next t) :
    (s.sample.inp.rst = true ∧ t = resetStep s.sample) ∨
    (∃ a, s.sample.inp.rst = false ∧ s.sample.inp.host = some a ∧ hostAccess a s.sample = .next t) ∨
    (s.sample.inp.rst = false ∧ s.sample.inp.host = none ∧ s.busy = false ∧
      t = s.sample.emit 0x0#4 0#8) ∨
    (s.sample.inp.rst = false ∧ s.sample.inp.host = none ∧ s.busy = true ∧ s.abt ≠ .none ∧
      t = s.sample.abortStep) ∨
    (s.sample.inp.rst = false ∧ s.sample.inp.host = none ∧ s.busy = true ∧ s.abt = .none ∧
      ∃ u i r, s.sample.fetch = some u ∧ decode (.micro u) = .ok i ∧ exec i s.sample = .next r ∧
        t = r.retire) := by
  unfold step cycle at h
  split at h
  · cases h; exact .inl ⟨‹_›, rfl⟩
  · rename_i hr
    have hr : s.sample.inp.rst = false := by simpa using hr
    split at h
    · rename_i a ha; exact .inr (.inl ⟨a, hr, ha, h⟩)
    · rename_i ha
      unfold engineStep at h
      split at h
      · rename_i hb; cases h; exact .inr (.inr (.inl ⟨hr, ha, hb, rfl⟩))
      · rename_i hb
        have hb : s.busy = true := by simpa using hb
        split at h
        · rename_i hab; cases h; exact .inr (.inr (.inr (.inl ⟨hr, ha, hb, hab, rfl⟩)))
        · rename_i hab
          have hab : s.abt = .none := by simpa using hab
          exact .inr (.inr (.inr (.inr ⟨hr, ha, hb, hab, runMicroOp_next h⟩)))

end Sys2Proof.Machine
end

