-- ==== Sys2Proof/Laws/Wire.lean ====
section
/-! SUPPORT. The control trace of a session's actions: it grows with the actions, the abort tail does not
change it, and a whole read microprogram has the controls of R206. -/
namespace Sys2Proof.Machine

theorem upToLastRecv_eq_nil {l : List (BitVec 4)} (h : 0x6#4 ∉ l) : upToLastRecv l = [] := by
  induction l with
  | nil => rfl
  | cons c cs ih => simp at h; simp [upToLastRecv, ih h.2, Ne.symm h.1]

theorem upToLastRecv_append (l m : List (BitVec 4)) :
    upToLastRecv (l ++ m) = if upToLastRecv m = [] then upToLastRecv l else l ++ upToLastRecv m := by
  induction l with
  | nil => by_cases h : upToLastRecv m = [] <;> simp [h, upToLastRecv]
  | cons c cs ih =>
    rw [List.cons_append, upToLastRecv, ih]
    by_cases h : upToLastRecv m = []
    · simp [h, upToLastRecv]
    · simp only [h, if_false]
      cases hx : cs ++ upToLastRecv m with
      | nil => simp at hx; exact absurd hx.2 h
      | cons d ds => simp [hx]

theorem upToLastRecv_prefix (l : List (BitVec 4)) : upToLastRecv l <+: l := by
  induction l with
  | nil => exact List.prefix_rfl
  | cons c cs ih =>
    rw [upToLastRecv]
    split
    · split <;> simp
    · rename_i d ds h
      rw [h] at ih
      exact List.cons_prefix_cons.2 ⟨rfl, ih⟩

theorem upToLastRecv_mono {l m : List (BitVec 4)} (h : l <+: m) : upToLastRecv l <+: upToLastRecv m := by
  obtain ⟨k, rfl⟩ := h
  rw [upToLastRecv_append]
  split
  · exact List.prefix_rfl
  · exact (upToLastRecv_prefix l).trans (List.prefix_append _ _)

theorem dropWhile_prefix_mono {p : BitVec 4 → Bool} {l m : List (BitVec 4)} (h : l <+: m) :
    l.dropWhile p <+: m.dropWhile p := by
  obtain ⟨k, rfl⟩ := h
  induction l with
  | nil => simp
  | cons c cs ih => simp only [List.cons_append, List.dropWhile_cons]; split <;> [exact ih; simp]

/-- The trace of a beginning is a beginning of the trace. -/
theorem controlTrace_mono {l m : List Action} (h : l <+: m) : controlTrace l <+: controlTrace m :=
  upToLastRecv_mono ((dropWhile_prefix_mono (h.map _)).drop 2)

/-- An action that is neither RECV_BYTE nor RESTART (an abort's) leaves the trace as it is. -/
theorem controlTrace_append_other (l : List Action) (a : Action) (h6 : a.act ≠ 0x6#4)
    (h2 : a.act ≠ 0x2#4) : controlTrace (l ++ [a]) = controlTrace l := by
  have hd : ((l ++ [a]).map Action.act).dropWhile (· != 0x2#4) =
      (l.map Action.act).dropWhile (· != 0x2#4) ++
        (if (l.map Action.act).dropWhile (· != 0x2#4) = [] then [] else [a.act]) := by
    rw [List.map_append, List.dropWhile_append]
    by_cases h : (l.map Action.act).dropWhile (· != 0x2#4) = []
    · simp [h, h2]
    · simp [h, List.isEmpty_iff]
  unfold controlTrace
  rw [hd, List.drop_append, upToLastRecv_append, if_pos]
  apply upToLastRecv_eq_nil
  intro hm
  have hm := List.mem_of_mem_drop hm
  split at hm
  · simp at hm
  · simp at hm; exact h6 hm.symm

/-- A read microprogram carries the controls of R206. -/
theorem controlTrace_readProg (p : Params) (a : HalfWord) (n : Nat) (hn : 1 ≤ n) :
    controlTrace ((readProg p a n).filterMap portAction) = readControls n := by
  match n, hn with
  | 1, _ => rfl
  | 2, _ => rfl
  | n + 3, _ =>
    have hr : ∀ n, ((plainRecvs n).filterMap portAction).map Action.act = List.replicate n 0x6#4 := by
      intro n
      induction n with
      | zero => rfl
      | succ n ih =>
        rw [plainRecvs_succ, List.filterMap_append, List.map_append, ih, List.replicate_succ']; rfl
    have hc : ((readProg p a (n + 3)).filterMap portAction).map Action.act =
        [1, 4, 7, 5, 5, 2, 4] ++ ([7] ++ (List.replicate (n + 1) 0x6#4 ++ [9, 6, 3, 6])) ++ [8] := by
      simp only [readProg, readData_plainRecvs, List.filterMap_append, List.map_append, hr]
      simp [progHead, arm, portAction, List.filterMap_cons]
    unfold controlTrace
    rw [hc]
    show upToLastRecv (([7] ++ (List.replicate (n + 1) 0x6#4 ++ [9, 6, 3, 6])) ++ [8]) = _
    rw [upToLastRecv_append, if_pos (by decide), upToLastRecv_append, upToLastRecv_append]
    rfl

end Sys2Proof.Machine
end

