-- ==== Sys2Proof/Tests/Slice0.lean ====
section
/-! SUPPORT. Tests of the model on single steps (expected results from spec/95_test_vectors.md and the
encoding tables), and for every statement with hypotheses a witness that meets them. -/
namespace Sys2Proof.Tests
open Sys2Proof.Machine

/-! ### Well-formedness: each check refuses its ill-formed term -/

theorem test_wf_write_len : Instr.wf (.writeReg 0x1234#16 0#8) = false := by decide
theorem test_wf_read_len : Instr.wf (.readReg 0x1234#16 0#8) = false := by decide
theorem test_wf_recv_index : Instr.wf (.recvByte 255#8) = false := by decide
theorem test_wf_bounds : Instr.wf (.writeReg 0#16 1#8) = true ∧ Instr.wf (.readReg 0#16 255#8) = true ∧
    Instr.wf (.recvByte 254#8) = true := by decide
theorem test_wait_bound_zero : Params.wf ⟨0#7, some 0⟩ = false ∧ Params.wf ⟨0#7, some 1⟩ = true := by decide

/-! ### Decoding: one word of each row, bit by bit from the format tables (R100-R103, R107) -/

/-- {REGADDR, LEN, RSV, OP} with OP = 00. -/
theorem test_decode_nop : decode (.host 0b1111111111111111_11111111_000000_00#32) = .ok .nop := by decide
theorem test_decode_write_reg :
    decode (.host 0b0001001000110100_00000001_000000_01#32) = .ok (.writeReg 0x1234#16 1#8) := by decide
theorem test_decode_read_reg :
    decode (.host 0b1010101111001101_11111111_000000_10#32) = .ok (.readReg 0xABCD#16 255#8) := by decide
/-- {ACT, COND, OPND}. -/
theorem test_decode_start : decode (.micro 0b0001_0000_00000000#16) = .ok .start := by decide
theorem test_decode_restart : decode (.micro 0b0010_0000_00000000#16) = .ok .restart := by decide
theorem test_decode_stop : decode (.micro 0b0011_0000_00000000#16) = .ok .stop := by decide
theorem test_decode_send_addr : decode (.micro 0b0100_0000_10111010#16) = .ok (.sendAddr 0xBA#8) := by decide
theorem test_decode_send_byte : decode (.micro 0b0101_0000_00010010#16) = .ok (.sendByte false 0x12#8) := by
  decide
theorem test_decode_send_data : decode (.micro 0b0101_0001_10101011#16) = .ok (.sendByte true 0xAB#8) := by
  decide
theorem test_decode_recv : decode (.micro 0b0110_0000_11111110#16) = .ok (.recvByte 254#8) := by decide
theorem test_decode_clear_addr : decode (.micro 0b0111_0000_00000000#16) = .ok .clearAddr := by decide
theorem test_decode_ack_on : decode (.micro 0b1000_0000_00000000#16) = .ok .ackOn := by decide
theorem test_decode_ack_off : decode (.micro 0b1001_0000_00000000#16) = .ok .ackOff := by decide
theorem test_decode_pos_on : decode (.micro 0b1010_0000_00000000#16) = .ok .posOn := by decide
theorem test_decode_pos_off : decode (.micro 0b1011_0000_00000000#16) = .ok .posOff := by decide
theorem test_decode_waits :
    decode (.micro 0b1100_0001_00000000#16) = .ok (.wait .sbMsl) ∧
    decode (.micro 0b1100_0010_00000000#16) = .ok (.wait .addr) ∧
    decode (.micro 0b1100_0011_00000000#16) = .ok (.wait .btf) ∧
    decode (.micro 0b1100_0100_00000000#16) = .ok (.wait .txr) ∧
    decode (.micro 0b1100_0101_00000000#16) = .ok (.wait .rxne) := by decide

/-- spec/95_test_vectors.md 2.1 and 2.4: the refused words. -/
theorem test_decode_refused :
    decode (.host 0x000000FF#32) = .error .rsvOp ∧ decode (.host 0x00000080#32) = .error .rsvBits ∧
    decode (.micro 0x1001#16) = .error .nonzeroOpnd ∧ decode (.micro 0x1100#16) = .error .nonzeroCond ∧
    decode (.micro 0x4100#16) = .error .nonzeroCond ∧ decode (.micro 0x52AB#16) = .error .nonzeroCond ∧
    decode (.micro 0xC000#16) = .error .invalidWaitCond ∧ decode (.micro 0xCF00#16) = .error .invalidWaitCond ∧
    decode (.micro 0xC101#16) = .error .nonzeroOpnd ∧ decode (.micro 0x0000#16) = .error .invalidAct ∧
    decode (.micro 0xE000#16) = .error .invalidAct := by decide

/-- The assembler texts of spec/30_encoding.md R111, R112. -/
theorem test_asm : Instr.asm (.sendByte true 0xAB#8) = "send_data 171" ∧ Instr.asm (.wait .sbMsl) = "wait sb_msl" ∧
    Instr.asm (.writeReg 0x1234#16 1#8) = "write_reg 4660, 1" := by decide

/-! ### Small states -/

/-- The spec's example device address (spec/95_test_vectors.md, conventions). -/
def cfgT (wb : Option Nat) : Params := ⟨0x5D#7, wb⟩

/-- After reset, with these inputs to come. -/
def idleT (wb : Option Nat) (ins : List Input) : State := { State.reset with cfg := cfgT wb, script := ins }

/-- A session of command word `w` at index `j`, with the memory `m` (the received bytes of a read). -/
def busyT (wb : Option Nat) (w : Word) (j : Nat) (m : Memory) (ins : List Input) : State :=
  let s : State := { idleT wb ins with cmd := w, busy := true, upc := BitVec.ofNat 10 j, mem := m }
  let r := recorderOf (s.past.filterMap portAction)
  { s with
    idx := BitVec.ofNat 8 (s.past.countP isDataOp)
    actions := s.past.filterMap portAction
    ackEn := r.ackEn
    pos := r.pos
    stopIssued := r.stopIssued
    records := r.records
    received := if s.cmdOp = 2#2 then m.map Prod.snd else [] }

/-- The state after one step. -/
def after (s : State) : State :=
  match step s with
  | .next t => t
  | .fault _ => s
  | .refused _ => s

/-- An engine step in which no condition holds. -/
def quiet : Input := Input.idle
/-- A reset step. -/
def rstT (a : Option Access) : Input := { Input.idle with rst := true, host := a }
/-- The host's turn. -/
def hostT (a : Access) : Input := Input.hostTurn a

/-- V-MP-1: `write_reg 0x1234, 1` with DATA[0] = 0xAB. -/
def w1 (j : Nat) (ins : List Input) : State := busyT none 0x12340101#32 j [(0, 0xAB#8)] ins
/-- V-MP-3: `read_reg 0x1234, 1`. -/
def r1 (j : Nat) (m : Memory) (ins : List Input) : State := busyT none 0x12340102#32 j m ins
/-- V-MP-4: `read_reg 0x1234, 2`. -/
def r2 (j : Nat) (m : Memory) (ins : List Input) : State := busyT none 0x12340202#32 j m ins
/-- V-MP-5: `read_reg 0x1234, 3`. -/
def r3 (j : Nat) (m : Memory) (ins : List Input) : State := busyT none 0x12340302#32 j m ins

/-! ### One step of each instruction (spec/95_test_vectors.md) -/

/-- 2.1: the STATUS and CMD after one write to CMD. -/
theorem test_issue_accepts :
    (after (idleT none [hostT (.write 0x000 .w4 0x12340101#32)])).statusWord = 0x00000101#32 ∧
    (after (idleT none [hostT (.write 0x000 .w4 0x12340101#32)])).cmd = 0x12340101#32 ∧
    (after (idleT none [hostT (.write 0x000 .w4 0x0000FF02#32)])).cmd = 0x0000FF02#32 := by decide
theorem test_issue_refuses :
    (after (idleT none [hostT (.write 0x000 .w4 0x000000FF#32)])).statusWord = 0x10000004#32 ∧
    (after (idleT none [hostT (.write 0x000 .w4 0x12340005#32)])).statusWord = 0x20000004#32 ∧
    (after (idleT none [hostT (.write 0x000 .w4 0xFFFF0001#32)])).statusWord = 0x30000004#32 ∧
    (after (idleT none [hostT (.write 0x000 .w4 0xFFFFFF00#32)])).statusWord = 0x00000000#32 := by decide
/-- 2.1, busy case. -/
theorem test_issue_busy :
    (after (w1 0 [hostT (.write 0x000 .w4 0x00000000#32)])).statusWord = 0x40000109#32 := by decide
/-- 2.2: malformed accesses, reserved offsets, INFO. -/
theorem test_host_access :
    (after (idleT none [hostT (.write 0x000 .w1 0x01#32)])).statusWord = 0x60000008#32 ∧
    (after (idleT none [hostT (.read 0x101 .w4)])).rdata = 0#32 ∧
    (after (idleT none [hostT (.read 0x00C .w4)])).rdata = 0x0000FF5D#32 ∧
    (after (idleT (some 1000) [hostT (.read 0x00C .w4)])).rdata = 0x0001FF5D#32 ∧
    (after (idleT none [hostT (.read 0x008 .w4)])).rdata = 0x00000001#32 := by decide
theorem test_data_write :
    (after (idleT none [hostT (.write 0x100 .w4 0x44332211#32)])).mem =
      [(0, 0x11#8), (1, 0x22#8), (2, 0x33#8), (3, 0x44#8)] ∧
    (after (idleT none [hostT (.write 0x1FC .w4 0x000000AA#32)])).mem =
      [(252, 0xAA#8), (253, 0#8), (254, 0#8), (255, 0#8)] := by decide
/-- V-MP-1, V-ST-1: the port and STATUS after each kind of micro-op of a write. -/
theorem test_start : (after (w1 0 [quiet])).port = ⟨0x1#4, 0x00#8⟩ ∧ (after (w1 0 [quiet])).upc = 1#10 ∧
    (after (w1 0 [quiet])).statusWord = 0x00001101#32 := by decide
theorem test_send_addr : (after (w1 2 [quiet])).port = ⟨0x4#4, 0xBA#8⟩ ∧
    (after (w1 2 [quiet])).statusWord = 0x00002101#32 := by decide
theorem test_clear_addr : (after (w1 4 [quiet])).port = ⟨0x7#4, 0x00#8⟩ ∧
    (after (w1 4 [quiet])).statusWord = 0x00000201#32 := by decide
theorem test_send_byte : (after (w1 5 [quiet])).port = ⟨0x5#4, 0x12#8⟩ ∧ (after (w1 5 [quiet])).idx = 0#8 := by
  decide
theorem test_send_data : (after (w1 9 [quiet])).port = ⟨0x5#4, 0xAB#8⟩ ∧
    (after (w1 9 [quiet])).statusWord = 0x00014301#32 := by decide
/-- The last micro-op of a write completes it in the same step. -/
theorem test_stop : (after (w1 11 [quiet])).port = ⟨0x3#4, 0x00#8⟩ ∧
    (after (w1 11 [quiet])).statusWord = 0x00010002#32 ∧
    (after (w1 11 [quiet])).ackctlWord = 0x00000005#32 := by decide
theorem test_wait : (after (w1 1 [Input.ready 0#8])).upc = 2#10 ∧ (after (w1 1 [quiet])).upc = 1#10 ∧
    (after (w1 1 [quiet])).port = ⟨0x0#4, 0x00#8⟩ := by decide
theorem test_wait_bound : (after (busyT (some 1) 0x12340101#32 1 [] [quiet])).abt = .stop ∧
    (after (busyT (some 1) 0x12340101#32 1 [] [quiet])).statusWord = 0x71000401#32 ∧
    (after (busyT (some 2) 0x12340101#32 1 [] [quiet])).polls = 1 := by decide
theorem test_restart : (after (r2 9 [] [quiet])).port = ⟨0x2#4, 0x00#8⟩ ∧
    (after (r2 9 [] [quiet])).statusWord = 0x00001101#32 := by decide
theorem test_pos_on : (r2 12 [] []).ackctlWord = 0b001#32 ∧ (after (r2 12 [] [quiet])).ackctlWord = 0b011#32 := by
  decide
theorem test_ack_off : (after (r2 15 [] [quiet])).ackctlWord = 0b010#32 ∧
    (after (r2 15 [] [quiet])).port = ⟨0x9#4, 0x00#8⟩ := by decide
theorem test_recv : (after (r2 17 [] [Input.ready 0x5A#8])).mem = [(0, 0x5A#8)] ∧
    (after (r2 17 [] [Input.ready 0x5A#8])).port = ⟨0x6#4, 0x00#8⟩ ∧
    (after (r2 17 [] [Input.ready 0x5A#8])).records = [⟨false, true, false⟩] := by decide
theorem test_pos_off : (r2 21 [(0, 0x5A#8), (1, 0xA5#8)] []).ackctlWord = 0b110#32 ∧
    (after (r2 21 [(0, 0x5A#8), (1, 0xA5#8)] [quiet])).ackctlWord = 0b100#32 := by decide
theorem test_ack_on : (after (r2 22 [(0, 0x5A#8), (1, 0xA5#8)] [quiet])).ackctlWord = 0b101#32 ∧
    (after (r2 22 [(0, 0x5A#8), (1, 0xA5#8)] [quiet])).statusWord = 0x00020002#32 := by decide
/-- A STOP already issued: the abort starts at its POS step (spec/60_exceptions.md R225). -/
theorem test_abort_after_stop : (after (busyT (some 1) 0x12340202#32 19 [(0, 0x5A#8)] [quiet])).abt = .posOff := by
  decide

/-! ### A table row's word placed where the very next step runs it -/

theorem test_place_write_reg :
    (after (State.reset.withFetchWord 32 0x12340101)).cmd = 0x12340101#32 := by decide
theorem test_place_send_addr :
    (after (State.reset.withFetchWord 16 0x40BB)).port = ⟨0x4#4, 0xBB#8⟩ := by decide
theorem test_place_send_data :
    (after (State.reset.withFetchWord 16 0x51AB)).port = ⟨0x5#4, 0xAB#8⟩ := by decide
theorem test_place_recv :
    (after (State.reset.withFetchWord 16 0x6005)).mem = [(5, 0#8)] := by decide
theorem test_place_wait : (after (State.reset.withFetchWord 16 0xC300)).upc = 17#10 := by decide

/-! ### Witnesses: states and operands that meet the hypotheses of each statement -/

/-- The abort sub-state `a` of a session at index `j`, under WAIT_BOUND = 2. -/
def abortT (w : Word) (j : Nat) (m : Memory) (a : Abt) (ins : List Input) : State :=
  { busyT (some 2) w j m ins with abt := a }
/-- V-AB: the last step of the tail of a write aborted at its first wait. -/
def abortEndT (ins : List Input) : State :=
  { abortT 0x12340101#32 1 [(0, 0xAB#8)] .ackOn ins with
    stopIssued := true, actions := [⟨0x1#4, 0#8⟩, ⟨0x3#4, 0#8⟩, ⟨0xB#4, 0#8⟩] }
/-- Every condition true. -/
def readyT : Input := Input.ready 0x5A#8

theorem witness_inv_idle : Inv (idleT none [quiet]) ∧ Inv (idleT (some 1) [quiet]) := by
  constructor <;> constructor <;> first | decide | exact (rfl : (0 : Nat) = 0) | exact Nat.zero_lt_one
theorem witness_inv_write : Inv (w1 9 [readyT]) := by
  constructor <;> first | decide | exact (rfl : (0 : Nat) = 0)
theorem witness_inv_write_last : Inv (w1 11 [readyT]) := by
  constructor <;> first | decide | exact (rfl : (0 : Nat) = 0)
theorem witness_inv_read : Inv (r3 20 [(0, 0x11#8), (1, 0x22#8)] [readyT]) := by
  constructor <;> first | decide | exact (rfl : (0 : Nat) = 0)
theorem witness_inv_read_last : Inv (r2 22 [(0, 0x5A#8), (1, 0xA5#8)] [readyT]) := by
  constructor <;> first | decide | exact (rfl : (0 : Nat) = 0)
theorem witness_inv_abort_end : Inv (abortEndT [quiet]) := by
  constructor <;> first | decide | exact (by decide : (0 : Nat) < 2)
theorem witness_inv_reset_step : Inv (w1 5 [rstT none]) := by
  constructor <;> first | decide | exact (rfl : (0 : Nat) = 0)

/-- DecodeInvertsEncode, MicroOpsMatchTheirPatterns. -/
theorem witness_decode : (∃ i, decode (.micro 0xC500#16) = .ok i) ∧
    (∃ i, decode (.host 0x12340102#32) = .ok i ∧ i ≠ .nop) :=
  ⟨⟨.wait .rxne, by decide⟩, ⟨.readReg 0x1234#16 1#8, by decide, by decide⟩⟩

/-- StepRunsTheFetchedMicroOp. -/
theorem witness_fetched : isEngineTurn (w1 9 [quiet]).nextInput ∧ (w1 9 [quiet]).busy = true ∧
    (w1 9 [quiet]).abt = .none ∧ (w1 9 [quiet]).fetch = some 0x51AB#16 ∧
    decode (.micro 0x51AB#16) = .ok (.sendByte true 0xAB#8) :=
  ⟨⟨rfl, rfl⟩, rfl, rfl, by decide, by decide⟩

/-- StepRunsTheIssuedCommand, for each command. -/
theorem witness_issued (w : Word) : (idleT none [hostT (.write 0x000 .w4 w)]).nextInput.rst = false ∧
    (idleT none [hostT (.write 0x000 .w4 w)]).nextInput.host = some (.write 0x000 .w4 w) :=
  ⟨rfl, rfl⟩

/-- IdleStepChangesNothing. -/
theorem witness_idle_step : isEngineTurn (idleT none [quiet]).nextInput ∧ (idleT none [quiet]).busy = false :=
  ⟨⟨rfl, rfl⟩, rfl⟩

/-- StepKeepsConfiguration, StepEmitsAtMostOneAction, FlagsChangeOnlyByTheirRules: an engine step, a
host access, a reset step that answer. -/
theorem witness_steps : step (w1 9 [quiet]) = .next (after (w1 9 [quiet])) ∧
    isEngineTurn (w1 9 [quiet]).nextInput ∧ (w1 9 [quiet]).nextInput.rst = false ∧
    step (idleT none [hostT (.read 0x004 .w4)]) = .next (after (idleT none [hostT (.read 0x004 .w4)])) ∧
    (idleT none [hostT (.read 0x004 .w4)]).nextInput.host ≠ none ∧
    step (w1 9 [rstT none]) = .next (after (w1 9 [rstT none])) ∧ (w1 9 [rstT none]).nextInput.rst = true :=
  ⟨rfl, ⟨rfl, rfl⟩, rfl, rfl, by decide, rfl, rfl⟩

/-- CommandsOnIdleEngine, CommandsTurnedAway. -/
theorem witness_commands : (idleT none []).busy = false ∧ (1#8 : Byte) ≠ 0#8 ∧ (w1 0 []).busy = true := by decide

/-- CommandFrame: on an idle engine (it opens a session), and on a busy one. -/
theorem witness_command_frame : Instr.isHost (.writeReg 0x1234#16 1#8) = true ∧
    exec (.writeReg 0x1234#16 1#8) (idleT none []) = .next ((idleT none []).accept 0x12340101#32) ∧
    ((idleT none []).accept 0x12340101#32).busy ≠ (idleT none []).busy ∧
    exec .nop (w1 3 []) = .next ((w1 3 []).hostError 4#4) ∧ (w1 3 []).busy = true :=
  ⟨rfl, rfl, by decide, rfl, rfl⟩

/-- ReceiveResult: DATA in canonical form. -/
theorem witness_receive : Memory.wf (r2 17 [(3, 1#8)] []).mem = true := by decide

/-- WaitResult: a true answer; a false one without a bound, below the bound, at the bound. -/
theorem witness_wait : ({ w1 1 [] with inp := readyT } : State).cond .sbMsl = true ∧
    (w1 1 []).cond .sbMsl = false ∧ (w1 1 []).cfg.waitBound = none ∧
    (busyT (some 2) 0x12340101#32 1 [] []).cond .sbMsl = false ∧
    (busyT (some 2) 0x12340101#32 1 [] []).cfg.waitBound = some 2 ∧
    (busyT (some 2) 0x12340101#32 1 [] []).polls + 1 ≠ 2 ∧
    ({ busyT (some 2) 0x12340101#32 1 [] [] with polls := 1 } : State).polls + 1 = 2 := by decide

/-- MicroOpFrame: a storing form, a waiting form. -/
theorem witness_micro_frame : Instr.isHost (.recvByte 0#8) = false ∧ Instr.isHost (.wait .txr) = false ∧
    (∃ t, exec (.recvByte 0#8) (r2 17 [] []) = .next t) ∧ (∃ t, exec (.wait .txr) (w1 6 []) = .next t) :=
  ⟨rfl, rfl, ⟨_, rfl⟩, ⟨_, rfl⟩⟩

/-- InputsMatterOnlyWhereSampled: two inputs that agree on the polled condition only. -/
theorem witness_inputs : Conds.level quiet.conds .txr = (w1 6 []).cond .txr ∧
    ({ readyT with rx := 0#8 } : Input).rx = (r2 17 [] []).inp.rx := by decide

/-- MalformedAccessRefused, OutsideTheWindow, at the edges of the window. -/
theorem witness_host_edges : ((0x1FC < 0x200) ∧ (Width.w1 ≠ Width.w4 ∨ 0x1FC % 4 ≠ 0)) ∧
    ((0x1FE < 0x200) ∧ (Width.w4 ≠ Width.w4 ∨ 0x1FE % 4 ≠ 0)) ∧ 0x200 ≤ 0x200 := by decide

/-- WritesWhileBusyRefused, DataWordStoresFourBytes, DataWordReads (a written and an unwritten byte),
ReadsHaveNoSideEffects: the last word, the last reserved offset. -/
theorem witness_data : (w1 5 []).busy = true ∧ (idleT none []).busy = false ∧ 63 < 64 ∧ 3 < 4 ∧
    Memory.read (w1 5 []).mem (4 * 0 + 0) = some 0xAB#8 ∧ Memory.read (w1 5 []).mem (4 * 63 + 3) = none ∧
    (0x1FC < 0x200 ∧ 0x1FC % 4 = 0) ∧ (0x010 ≤ 0x0FC ∧ 0x0FC < 0x100 ∧ 0x0FC % 4 = 0) ∧
    (0x008 ≤ 0x008 ∧ 0x008 < 0x100 ∧ 0x008 % 4 = 0) := by decide

/-- HostAccessFrame: a busy engine with TIMEOUT = 0. -/
theorem witness_host_frame : hostAccess (.write 0x004 .w4 0x1E#32) (w1 5 []) =
    .next ((w1 5 []).statusWrite 0x1E#32) ∧ (w1 5 []).timeout = false ∧ (w1 5 []).busy = true :=
  ⟨rfl, rfl, rfl⟩

/-- ResetStepLeavesResetState, HostAccessDuringReset: any access in a reset step, in a session. -/
theorem witness_reset (a : Option Access) : (w1 5 [rstT a]).nextInput.rst = true ∧
    (w1 5 [rstT a]).nextInput.host = a := ⟨rfl, rfl⟩

/-- ProgramLandmarks, PhaseTable, GeneratorMakesValidWords, AckControlPlacement. -/
theorem witness_programs : ((w1 0 []).cmdOp = 1#2 ∧ (w1 0 []).cmdLen = 1) ∧
    ((r1 0 [] []).cmdOp = 2#2 ∧ (r1 0 [] []).cmdLen = 1) ∧ ((r2 0 [] []).cmdOp = 2#2 ∧ (r2 0 [] []).cmdLen = 2) ∧
    ((r3 0 [] []).cmdOp = 2#2 ∧ (r3 0 [] []).cmdLen = 3) ∧ (r3 0 [] []).busy = true ∧ (r3 0 [] []).abt = .none ∧
    (abortEndT []).abt ≠ .none ∧ .ackOff ∈ (r3 0 [] []).prog ∧
    .stop ∈ writeProg (cfgT none) 0x1234#16 [0xAB#8] := by decide

/-- ReadProgramShape: n = 3 and its one plain byte. -/
theorem witness_read_shape : 3 ≤ 3 ∧ 0 + 2 < 3 ∧ 0 < [0xAB#8].length := by decide

/-- RunningProgramIsFrozen, StepKeepsInvariant, InvariantStateAlwaysSteps, PhaseFollowsTheStop: a
session in its data phase. -/
theorem witness_running : Inv (w1 9 [readyT]) ∧ (w1 9 [readyT]).busy = true ∧ (w1 9 [readyT]).abt = .none ∧
    (w1 9 [readyT]).nextInput.rst = false ∧ step (w1 9 [readyT]) = .next (after (w1 9 [readyT])) :=
  ⟨witness_inv_write, rfl, rfl, rfl, rfl⟩

/-- CompletesAtTheLastMicroOp, SessionEndsWithOneStop, CompletedReadRecords, CompletedSessionOnTheWire:
the last step of a write. -/
theorem witness_completing_write : Inv (w1 11 [readyT]) ∧ (w1 11 [readyT]).busy = true ∧
    (w1 11 [readyT]).abt = .none ∧ isEngineTurn (w1 11 [readyT]).nextInput ∧
    step (w1 11 [readyT]) = .next (after (w1 11 [readyT])) ∧ (after (w1 11 [readyT])).busy = false ∧
    (w1 11 [readyT]).cmdOp = 1#2 :=
  ⟨witness_inv_write_last, rfl, rfl, ⟨rfl, rfl⟩, rfl, by decide, by decide⟩

/-- The same and CompletionPublishesResult: the last step of a two-byte read. -/
theorem witness_completing_read :
    let s := r2 22 [(0, 0x5A#8), (1, 0xA5#8)] [readyT]
    Inv s ∧ s.busy = true ∧ s.abt = .none ∧ isEngineTurn s.nextInput ∧ step s = .next (after s) ∧
      (after s).busy = false ∧ s.cmdOp = 2#2 :=
  ⟨witness_inv_read_last, rfl, rfl, ⟨rfl, rfl⟩, rfl, by decide, by decide⟩

/-- SessionEndsWithOneStop: the last step of an abort, and a reset inside a session. -/
theorem witness_session_ends : (Inv (abortEndT [quiet]) ∧ (abortEndT [quiet]).busy = true ∧
      (abortEndT [quiet]).nextInput.rst = false ∧ step (abortEndT [quiet]) = .next (after (abortEndT [quiet])) ∧
      (after (abortEndT [quiet])).busy = false) ∧
    (Inv (w1 5 [rstT none]) ∧ (w1 5 [rstT none]).busy = true ∧ (w1 5 [rstT none]).nextInput.rst = true ∧
      step (w1 5 [rstT none]) = .next (after (w1 5 [rstT none]))) :=
  ⟨⟨witness_inv_abort_end, rfl, rfl, rfl, by decide⟩, ⟨witness_inv_reset_step, rfl, rfl, rfl⟩⟩

/-- AbortTailEndsTheSession, from each of its two entries. -/
theorem witness_abort_tail :
    (let s := abortT 0x12340101#32 1 [] .stop [quiet, quiet, quiet]
     s.busy = true ∧ s.abt = .stop ∧ s.script = [quiet, quiet, quiet] ∧ isEngineTurn quiet) ∧
    (let s := abortT 0x12340202#32 19 [(0, 1#8)] .posOff [quiet, quiet]
     s.busy = true ∧ s.abt = .posOff ∧ s.script = [quiet, quiet]) :=
  ⟨⟨rfl, rfl, rfl, rfl, rfl⟩, ⟨rfl, rfl, rfl⟩⟩

/-- UnansweredWaitHangs: two polls of the first wait. -/
theorem witness_hang : (w1 1 [quiet, quiet]).busy = true ∧ (w1 1 [quiet, quiet]).abt = .none ∧
    (w1 1 [quiet, quiet]).cfg.waitBound = none ∧
    (w1 1 [quiet, quiet]).prog[(w1 1 [quiet, quiet]).upc.toNat]? = some (.wait .sbMsl) ∧
    2 ≤ (w1 1 [quiet, quiet]).script.length ∧
    (∀ i ∈ (w1 1 [quiet, quiet]).script.take 2, isEngineTurn i ∧ Conds.level i.conds .sbMsl = false) := by
  refine ⟨rfl, rfl, rfl, by decide, by decide, ?_⟩
  intro i hi
  have hq : i = quiet := by simpa [w1, busyT, idleT] using hi
  subst hq
  exact ⟨⟨rfl, rfl⟩, rfl⟩

/-- AnsweredCommandCompletes: a read with one micro-op left. -/
theorem witness_answered :
    let s := r2 22 [(0, 0x5A#8), (1, 0xA5#8)] [readyT]
    Inv s ∧ s.busy = true ∧ s.abt = .none ∧ s.prog.length - s.upc.toNat ≤ s.script.length ∧
      ∀ i ∈ s.script.take (s.prog.length - s.upc.toNat), isReadyTurn i := by
  refine ⟨witness_inv_read_last, rfl, rfl, by decide, ?_⟩
  intro i hi
  have hr : i = readyT := by simpa [r2, busyT, idleT] using List.mem_of_mem_take hi
  subst hr
  exact ⟨rfl, rfl, rfl⟩

/-- WriteRegisterStartsItsProgram, ReadRegisterStartsItsProgram, ReferenceDeviceRoundTrip,
BootIssuesTheConfigurationWrite: the smallest and the largest transfer. -/
theorem witness_lengths : (idleT none []).busy = false ∧ (1 ≤ [0xAB#8].length ∧ [0xAB#8].length ≤ 255) ∧
    (255#8 : Byte) ≠ 0#8 ∧ 63 < ((255#8 : Byte).toNat + 3) / 4 ∧ [0xCD#8].length = [0xAB#8].length ∧
    105 < 106 := by decide

/-- WaitcondTable: a wait, under a bound too; no command; an abort at a wait; a micro-op that is no WAIT. -/
theorem witness_waitcond : ((w1 1 []).busy = true ∧ (w1 1 []).abt = .none ∧
      (w1 1 []).prog[(w1 1 []).upc.toNat]? = some (.wait .sbMsl)) ∧
    (let s := busyT (some 2) 0x12340101#32 10 [] []
     s.busy = true ∧ s.abt = .none ∧ s.prog[s.upc.toNat]? = some (.wait .txr)) ∧
    (idleT none []).busy = false ∧ (abortT 0x12340101#32 1 [] .stop []).abt ≠ .none ∧
    (∀ c, (w1 0 []).prog[(w1 0 []).upc.toNat]? ≠ some (.wait c)) := by
  refine ⟨by decide, by decide, by decide, by decide, ?_⟩
  intro c
  cases c <;> decide

/-! ### The wire under EA-CONFORM -/

/-- P1, second command: the wire of `read_reg 0x1234, 2` (spec/95_test_vectors.md 3). -/
theorem test_read_wire : readWire (cfgT none) 0x1234#16 [0xAB#8, 0xCD#8] =
    [.s, .w 0xBA#8 true, .w 0x12#8 true, .w 0x34#8 true, .sr, .w 0xBB#8 true, .r 0xAB#8 true,
     .r 0xCD#8 false, .p] := by decide

/-- The NACK on the wire ends the reception: the clause `nackEnds`, for a list of answers. -/
theorem nack_last (wire : List WireEvent) (as : List Bool) (h : masterAcks wire = as)
    (hl : as.dropLast.all id = true) :
    ∀ i, (masterAcks wire)[i]? = some false → (masterAcks wire).length = i + 1 := by
  intro i hi
  rw [h] at hi ⊢
  by_contra hc
  have hlt := (List.getElem?_eq_some_iff.1 hi).1
  have hm : false ∈ as.dropLast := by
    refine List.mem_of_getElem? (i := i) ?_
    rw [List.getElem?_dropLast, if_pos (by omega), hi]
  simpa using List.all_eq_true.1 hl false hm

/-- ProgramsMakeTheWireTransactions, CompletedSessionOnTheWire, TakenBytesAreAcknowledged,
WriteThenReadRoundTrip: the premise is met by the wire of a completed write and of a completed read. -/
theorem witness_conform_write : EaConform 1 (after (w1 11 [readyT])).actions (after (w1 11 [readyT])).received
    (writeWire (cfgT none) 0x1234#16 [0xAB#8]) where
  carried := ⟨[], by decide, by decide⟩
  deviceAcks := by decide
  readAcks := by decide
  nackEnds := nack_last _ [] (by decide) (by decide)
theorem witness_conform_read : let s := r2 22 [(0, 0x5A#8), (1, 0xA5#8)] [readyT]
    EaConform 2 (after s).actions (after s).received
      (readWire (cfgT none) 0x1234#16 [0x5A#8, 0xA5#8]) where
  carried := ⟨[], by decide, by decide⟩
  deviceAcks := by decide
  readAcks := by decide
  nackEnds := nack_last _ [true, false] (by decide) (by decide)

/-- V-AB-2: `read_reg 0x1234, 2` aborted at its second byte, in the last step of the tail. -/
def abortReadT : State :=
  { abortT 0x12340202#32 19 [(0, 0x5A#8)] .ackOn [quiet] with
    pos := false
    actions := (busyT (some 2) 0x12340202#32 19 [] []).actions ++ [⟨0xB#4, 0#8⟩] }

theorem witness_inv_abort_read : Inv abortReadT := by
  constructor <;> first | decide | exact (by decide : (0 : Nat) < 2)

/-- TakenBytesAreAcknowledged, in an abort: byte 0 was taken, and a conforming peripheral ACKs it; a
second byte that came too late was NACKed. -/
theorem witness_conform_abort : abortReadT.busy = true ∧ abortReadT.cmdOp = 2#2 ∧
    abortReadT.nextInput.rst = false ∧ step abortReadT = .next (after abortReadT) ∧
    (after abortReadT).busy = false ∧
    EaConform 2 (after abortReadT).actions (after abortReadT).received
      [.s, .w 0xBA#8 true, .w 0x12#8 true, .w 0x34#8 true, .sr, .w 0xBB#8 true, .r 0x5A#8 true,
       .r 0xA5#8 false, .p] :=
  ⟨rfl, by decide, rfl, rfl, by decide,
    { carried := ⟨[0xA5#8], by decide, by decide⟩
      deviceAcks := by decide
      readAcks := by decide
      nackEnds := nack_last _ [true, false] (by decide) (by decide) }⟩
theorem test_abort_read_end : (after abortReadT).statusWord.extractLsb' 0 24 = 0x010012#24 ∧
    (after abortReadT).ackctlWord = 0x5#32 := by decide

/-- With ACK_OFF moved behind CLEAR_ADDR (spec/43_ack_control.md R205) the controls are not R206's, and
the premise leaves the byte's acknowledgment open: an ACKed single byte conforms. -/
theorem test_controls_moved : controlTrace [⟨0x2#4, 0#8⟩, ⟨0x4#4, 0xBB#8⟩, ⟨0x7#4, 0#8⟩, ⟨0x9#4, 0#8⟩, ⟨0x6#4, 0#8⟩] ≠
      readControls 1 ∧
    EaConform 1 [⟨0x2#4, 0#8⟩, ⟨0x4#4, 0xBB#8⟩, ⟨0x7#4, 0#8⟩, ⟨0x9#4, 0#8⟩, ⟨0x6#4, 0#8⟩, ⟨0x3#4, 0#8⟩] [0x5A#8]
      [.sr, .w 0xBB#8 true, .r 0x5A#8 true, .p] :=
  ⟨by decide,
    { carried := ⟨[], by decide, by decide⟩
      deviceAcks := by decide
      readAcks := by decide
      nackEnds := nack_last _ [true] (by decide) (by decide) }⟩

/-- WriteThenReadRoundTrip: a read of what the write of `w1` stored. -/
def r1End : State := r1 18 [(0, 0xAB#8)] [readyT]
theorem witness_inv_r1_end : Inv r1End := by
  constructor <;> first | decide | exact (rfl : (0 : Nat) = 0)
theorem witness_conform_r1 : EaConform 1 (after r1End).actions (after r1End).received
    (readWire (cfgT none) 0x1234#16 [0xAB#8]) where
  carried := ⟨[], by decide, by decide⟩
  deviceAcks := by decide
  readAcks := by decide
  nackEnds := nack_last _ [false] (by decide) (by decide)

/-- The two transactions are runs of the reference device, one after the other. -/
theorem witness_device_runs (d : RefDevice) :
    let e : RefDevice := { regs := d.regs.set 0x1234 0xAB#8, ptr := 0x1235#16, phase := .idle }
    refDeviceRun d (writeWire (cfgT none) 0x1234#16 [0xAB#8]) = some e ∧
    refDeviceRun e (readWire (cfgT none) 0x1234#16 [0xAB#8]) = some e := by
  constructor
  · rfl
  · simp [readWire, refDeviceRun, refDeviceStep, cfgT, addrWrite, addrRead, regHi, regLo]
theorem witness_round_trip :
    (w1 11 [readyT]).cmdLen = 1 ∧ r1End.busy = true ∧ r1End.abt = .none ∧ r1End.cmdOp = 2#2 ∧
    r1End.nextInput.rst = false ∧ step r1End = .next (after r1End) ∧ (after r1End).busy = false ∧
    r1End.cmdAddr = (w1 11 [readyT]).cmdAddr ∧ r1End.cmdLen = (w1 11 [readyT]).cmdLen :=
  ⟨by decide, rfl, rfl, by decide, rfl, rfl, by decide, by decide, by decide⟩

/-- `read_register a, 5` (R112): the command word, the poll, and two reads of DATA. -/
theorem test_read_register : readRegister 0x1234#16 5#8 =
    [.hw 0x000 0x12340502#32, .poll 0x004 1#32 0#32, .hr 0x100, .hr 0x104] := by decide

end Sys2Proof.Tests
end

section
/-! O7. No step changes the engine's surroundings but the sampling of one input at its start. -/
namespace Sys2Proof.Machine

/-- What the engine reads and never writes (log 1, 4): the parameters, the sampled input, the inputs to
come and the number of steps taken. -/
def State.surroundings (s : State) : Params × Input × List Input × Nat :=
  (s.cfg, s.inp, s.script, s.tick)

/-! ### The shared operations -/

theorem State.surroundings_issueTransfer (s : State) (n : Byte) (w : Word) :
    (s.issueTransfer n w).surroundings = s.surroundings := by
  unfold State.issueTransfer
  split
  · simp [State.surroundings]
  · split <;> simp [State.surroundings]

theorem State.surroundings_abortStep (s : State) : s.abortStep.surroundings = s.surroundings := by
  unfold State.abortStep
  split <;> simp [State.surroundings]

theorem State.surroundings_retire (s : State) : s.retire.surroundings = s.surroundings := by
  unfold State.retire
  split <;> simp [State.surroundings]

theorem State.surroundings_writeDataWord (s : State) (j : Nat) (w : Word) :
    (s.writeDataWord j w).surroundings = s.surroundings := by
  simp [State.surroundings, State.writeDataWord]

/-! ### The instructions -/

theorem execNop_surroundings {s t : State} (h : execNop s = .next t) :
    t.surroundings = s.surroundings := by
  obtain rfl := Host.Outcome.next.inj h
  split <;> simp [State.surroundings]

theorem execSendByte_surroundings {d : Bool} {b : Byte} {s t : State}
    (h : execSendByte d b s = .next t) : t.surroundings = s.surroundings := by
  obtain rfl := Host.Outcome.next.inj h
  split <;> simp [State.surroundings]

/-- A poll moves on, counts, or begins the abort; each keeps the surroundings. -/
theorem execWait_surroundings {c : Cond} {s t : State} (h : execWait c s = .next t) :
    t.surroundings = s.surroundings := by
  obtain rfl := Host.Outcome.next.inj h
  split
  · simp [State.surroundings]
  · split
    · simp [State.surroundings]
    · split <;> simp [State.surroundings]

/-- No instruction changes the surroundings: those without a branch are a chain of named updates. -/
theorem exec_surroundings {i : Instr} {s t : State} (h : exec i s = .next t) :
    t.surroundings = s.surroundings := by
  cases i with
  | nop => exact execNop_surroundings h
  | writeReg | readReg =>
    obtain rfl := Host.Outcome.next.inj h
    exact s.surroundings_issueTransfer _ _
  | sendByte => exact execSendByte_surroundings h
  | wait => exact execWait_surroundings h
  | start | restart | stop | sendAddr | recvByte | clearAddr | ackOn | ackOff | posOn | posOff =>
    obtain rfl := Host.Outcome.next.inj h
    simp [State.surroundings]

/-! ### The host's accesses -/

theorem issue_surroundings {w : Word} {s t : State} (h : issue w s = .next t) :
    t.surroundings = s.surroundings := by
  unfold issue at h
  split at h
  · exact exec_surroundings h
  · obtain rfl := Host.Outcome.next.inj h
    split <;> simp [State.surroundings]

theorem hostRead_surroundings (off : Nat) (n : Width) (s : State) :
    (hostRead off n s).surroundings = s.surroundings := by
  unfold hostRead
  split
  · simp [State.surroundings]
  · split <;> simp [State.surroundings]

theorem hostDataWrite_surroundings (off : Nat) (v : Word) (s : State) :
    (hostDataWrite off v s).surroundings = s.surroundings := by
  unfold hostDataWrite
  split
  · simp [State.surroundings]
  · exact s.surroundings_writeDataWord _ _

/-- A host write is outside the window, malformed, to CMD, to STATUS, ignored, or to DATA. -/
theorem hostWrite_surroundings {off : Nat} {n : Width} {v : Word} {s t : State}
    (h : hostWrite off n v s = .next t) : t.surroundings = s.surroundings := by
  unfold hostWrite at h
  split_ifs at h
  · cases h; rfl
  · cases h; simp [State.surroundings]
  · exact issue_surroundings h
  · cases h; simp [State.surroundings]
  · cases h; rfl
  · cases h; exact hostDataWrite_surroundings off v s

theorem hostAccess_surroundings {a : Access} {s t : State} (h : hostAccess a s = .next t) :
    t.surroundings = s.surroundings := by
  cases a with
  | read off n =>
    obtain rfl := Host.Outcome.next.inj h
    exact hostRead_surroundings off n s
  | write off n v => exact hostWrite_surroundings h

theorem hostAccessInReset_surroundings (a : Access) (s : State) :
    (hostAccessInReset a s).surroundings = s.surroundings := by
  cases a with
  | write => rfl
  | read off n =>
    simp only [hostAccessInReset]
    split
    · simp [State.surroundings]
    · split <;> simp [State.surroundings]

theorem resetStep_surroundings (s : State) : (resetStep s).surroundings = s.surroundings := by
  have hr : s.applyReset.surroundings = s.surroundings := by simp [State.surroundings]
  unfold resetStep
  split
  · exact hr
  · exact (hostAccessInReset_surroundings _ _).trans hr

/-! ### The step -/

/-- After the inputs are sampled, no kind of step changes the surroundings. -/
theorem step_surroundings {s t : State} (h : step s = .next t) :
    t.surroundings = s.sample.surroundings := by
  rcases step_cases h with ⟨-, rfl⟩ | ⟨a, -, -, ha⟩ | ⟨-, -, -, rfl⟩ | ⟨-, -, -, -, rfl⟩ |
    ⟨-, -, -, -, u, i, r, -, -, hi, rfl⟩
  · exact resetStep_surroundings _
  · exact hostAccess_surroundings ha
  · simp [State.surroundings]
  · exact State.surroundings_abortStep _
  · exact (State.surroundings_retire r).trans (exec_surroundings hi)

/-- Settles O7: of the surroundings, only the sampling at the start of a step changes anything. -/
theorem stepKeepsConfiguration : Obligations.StepKeepsConfiguration := by
  intro s t h
  simpa [State.surroundings] using step_surroundings h

end Sys2Proof.Machine
end

section
/-! SUPPORT. The micro-op word level: encoding a micro-op and decoding it is the identity, and no
micro-op word decodes to a host command (R107, R109). -/
namespace Sys2Proof

theorem decodeU0_microWord (i : Instr) (a : BitVec 4) :
    decodeU0 i (microWord a 0#4 0#8) = .ok i := by
  simp [decodeU0, microCond_microWord, microOpnd_microWord]

theorem decodeUB_microWord (mk : Byte → Instr) (a : BitVec 4) (b : Byte) :
    decodeUB mk (microWord a 0#4 b) = .ok (mk b) := by
  simp [decodeUB, microCond_microWord, microOpnd_microWord]

theorem decodeUD_microWord (a : BitVec 4) (d : Bool) (b : Byte) :
    decodeUD (microWord a (0#3 ++ BitVec.ofBool d) b) = .ok (.sendByte d b) := by
  obtain ⟨hd, hz⟩ := microD_microWord a d b
  unfold decodeUD
  rw [hd, hz, microOpnd_microWord]
  simp

theorem condOfCode_code (c : Cond) : condOfCode c.code = some c := by
  cases c <;> rfl

theorem decodeUW_microWord (a : BitVec 4) (c : Cond) :
    decodeUW (microWord a c.code 0#8) = .ok (.wait c) := by
  simp [decodeUW, microCond_microWord, microOpnd_microWord, condOfCode_code]

/-- Decoding undoes encoding on every micro-op, format by format. -/
theorem decodeMicro_encodeMicro {i : Instr} (hi : i.isHost = false) :
    decodeMicro (encodeMicro i) = .ok i := by
  cases i with
  | nop | writeReg | readReg => cases hi
  | start | restart | stop | clearAddr | ackOn | ackOff | posOn | posOff =>
    simp [decodeMicro, encodeMicro, microAct_microWord, decodeU0_microWord]
  | sendAddr | recvByte =>
    simp [decodeMicro, encodeMicro, microAct_microWord, decodeUB_microWord]
  | sendByte d b =>
    simp only [decodeMicro, encodeMicro, microAct_microWord, decodeUD_microWord]
    rfl
  | wait c =>
    simp only [decodeMicro, encodeMicro, microAct_microWord, decodeUW_microWord]
    rfl

theorem decodeU0_ok {i j : Instr} {u : HalfWord} (h : decodeU0 i u = .ok j) : j = i := by
  unfold decodeU0 at h
  split_ifs at h
  exact (Except.ok.inj h).symm

theorem decodeUB_ok {mk : Byte → Instr} {j : Instr} {u : HalfWord} (h : decodeUB mk u = .ok j) :
    j = mk (microOpnd u) := by
  unfold decodeUB at h
  split_ifs at h
  exact (Except.ok.inj h).symm

theorem decodeUD_ok {j : Instr} {u : HalfWord} (h : decodeUD u = .ok j) :
    j = .sendByte (u.getLsbD 8) (microOpnd u) := by
  unfold decodeUD at h
  split_ifs at h
  exact (Except.ok.inj h).symm

theorem decodeUW_ok {j : Instr} {u : HalfWord} (h : decodeUW u = .ok j) : ∃ c, j = .wait c := by
  unfold decodeUW at h
  split_ifs at h
  split at h
  · exact ⟨_, (Except.ok.inj h).symm⟩
  · cases h

/-- A micro-op word never decodes to a host command. -/
theorem decodeMicro_isHost {u : HalfWord} {i : Instr} (h : decodeMicro u = .ok i) :
    i.isHost = false := by
  unfold decodeMicro at h
  split at h
  case h_4 | h_6 => rw [decodeUB_ok h]; rfl
  case h_5 => rw [decodeUD_ok h]; rfl
  case h_12 => obtain ⟨c, rfl⟩ := decodeUW_ok h; rfl
  case h_13 => cases h
  all_goals rw [decodeU0_ok h]; rfl

/-- A host word never decodes to a micro-op. -/
theorem decodeHost_isHost {w : Word} {i : Instr} (h : decodeHost w = .ok i) : i.isHost = true := by
  unfold decodeHost at h
  split_ifs at h <;> obtain rfl := Except.ok.inj h <;> rfl

/-- The host-word decoder refuses by two of the names only. -/
theorem decodeHost_error {w : Word} {e : DecodeError} (h : decodeHost w = .error e) :
    e = .rsvOp ∨ e = .rsvBits := by
  unfold decodeHost at h
  split_ifs at h
  · exact .inl (Except.error.inj h).symm
  · exact .inr (Except.error.inj h).symm

end Sys2Proof
end

section
/-! SUPPORT. What a host access, a reset step and a micro-op can do to the state, each said once; the
proofs about steps go through these cases. -/
namespace Sys2Proof.Machine

/-! ### Host accesses -/

/-- What an admitted, refused or ignored host access makes of `s`. -/
inductive HostEffect (s : State) : State → Prop
  | ignored : HostEffect s s
  | answered (w : Word) : HostEffect s (s.setRdata w)
  | malformedRead : HostEffect s ((s.hostError 6#4).setRdata 0#32)
  | refused (c : BitVec 4) (hc : c.toNat ≤ 6) : HostEffect s (s.hostError c)
  | commandRefused (c : BitVec 4) (hc : c.toNat ≤ 3) (idle : s.busy = false) :
      HostEffect s (s.cmdError c)
  | accepted (a : HalfWord) (n : Byte) (op : BitVec 2) (hop : op = 1#2 ∨ op = 2#2) (hn : n ≠ 0#8)
      (idle : s.busy = false) : HostEffect s (s.accept (hostWord a n op))
  | cleared (w : Word) : HostEffect s (s.statusWrite w)
  | stored (j : Nat) (w : Word) (hj : j + 3 < 256) (idle : s.busy = false) :
      HostEffect s (s.writeDataWord j w)

theorem State.issueTransfer_effect (s : State) (a : HalfWord) (n : Byte) {op : BitVec 2}
    (hop : op = 1#2 ∨ op = 2#2) : HostEffect s (s.issueTransfer n (hostWord a n op)) := by
  unfold State.issueTransfer
  split_ifs with hb hn
  · exact .refused _ (by decide)
  · exact .commandRefused _ (by decide) (by simpa using hb)
  · exact .accepted a n op hop hn (by simpa using hb)

/-- A host command refuses, is accepted, or (a NOP) changes nothing. -/
theorem exec_hostEffect {i : Instr} {s t : State} (hi : i.isHost = true) (h : exec i s = .next t) :
    HostEffect s t := by
  cases i with
  | nop =>
    obtain rfl := Host.Outcome.next.inj h
    split
    · exact .refused _ (by decide)
    · exact .ignored
  | writeReg a n =>
    obtain rfl := Host.Outcome.next.inj h
    exact s.issueTransfer_effect a n (.inl rfl)
  | readReg a n =>
    obtain rfl := Host.Outcome.next.inj h
    exact s.issueTransfer_effect a n (.inr rfl)
  | _ => cases hi

theorem issue_effect {w : Word} {s t : State} (h : issue w s = .next t) : HostEffect s t := by
  unfold issue at h
  split at h
  · rename_i i hi
    exact exec_hostEffect (decodeHost_isHost hi) h
  · rename_i e he
    obtain rfl := Host.Outcome.next.inj h
    split_ifs with hb
    · exact .refused _ (by decide)
    · refine .commandRefused _ ?_ (by simpa using hb)
      obtain rfl | rfl := decodeHost_error he <;> decide

theorem hostRead_effect (off : Nat) (n : Width) (s : State) : HostEffect s (hostRead off n s) := by
  unfold hostRead
  split_ifs
  · exact .answered _
  · exact .malformedRead
  · exact .answered _

theorem hostDataWrite_effect {off : Nat} (h : off - 0x100 + 3 < 256) (v : Word) (s : State) :
    HostEffect s (hostDataWrite off v s) := by
  unfold hostDataWrite
  split_ifs with hb
  · exact .refused _ (by decide)
  · exact .stored _ _ h (by simpa using hb)

theorem hostWrite_effect {off : Nat} {n : Width} {v : Word} {s t : State}
    (h : hostWrite off n v s = .next t) : HostEffect s t := by
  unfold hostWrite at h
  split_ifs at h with hw ha
  · cases h; exact .ignored
  · cases h; exact .refused _ (by decide)
  · exact issue_effect h
  · cases h; exact .cleared _
  · cases h; exact .ignored
  · cases h
    refine hostDataWrite_effect ?_ v s
    simp only [inWindow, aligned4, Bool.and_eq_false_iff, decide_eq_false_iff_not] at hw ha
    omega

/-- Everything a host access can do. -/
theorem hostAccess_effect {a : Access} {s t : State} (h : hostAccess a s = .next t) :
    HostEffect s t := by
  cases a with
  | read off n =>
    obtain rfl := Host.Outcome.next.inj h
    exact hostRead_effect off n s
  | write off n v => exact hostWrite_effect h

/-! ### Reset steps -/

theorem hostAccessInReset_eq_setRdata (a : Access) (s : State) :
    ∃ w, hostAccessInReset a s = s.setRdata w := by
  cases a with
  | write => exact ⟨s.rdata, rfl⟩
  | read off n =>
    simp only [hostAccessInReset]
    split_ifs
    · exact ⟨_, rfl⟩
    · exact ⟨_, rfl⟩
    · exact ⟨_, rfl⟩

/-- A reset step resets the engine, and beside that only a host read is answered (R252). -/
theorem resetStep_eq_setRdata (s : State) : ∃ w, resetStep s = s.applyReset.setRdata w := by
  unfold resetStep
  split
  · exact ⟨s.rdata, rfl⟩
  · exact hostAccessInReset_eq_setRdata _ _

/-! ### Micro-ops -/

/-- The engine's controls and byte-boundary records, as a recorder holds them (R207). -/
def State.recorder (s : State) : Recorder := ⟨s.ackEn, s.pos, s.stopIssued, s.records⟩

/-- DATA and the bytes handed over, after micro-op `i`: a RECV_BYTE takes the byte of this step (R182). -/
def State.taken (s : State) : Instr → Memory × List Byte
  | .recvByte j => (Memory.write s.mem j.toNat s.rx, s.received ++ [s.rx])
  | _ => (s.mem, s.received)

/-- Micro-op `i` takes `s` to `r` and is behind the micro-PC: every field that a step of a session,
or a statement about one, speaks of. -/
structure Advances (i : Instr) (s r : State) : Prop where
  upc : r.upc = s.upc + 1#10 := by simp
  actions : r.actions = s.actions ++ (portAction i).toList := by rfl
  port : r.port = (portAction i).getD ⟨0#4, 0#8⟩ := by rfl
  recorder : r.recorder = (portAction i).toList.foldl recorderStep s.recorder := by rfl
  idx : r.idx = if isDataOp i then s.idx + 1#8 else s.idx := by rfl
  taken : (r.mem, r.received) = s.taken i := by rfl
  polls : r.polls = s.polls ∨ r.polls = 0 := by simp
  busy : r.busy = s.busy := by simp
  abt : r.abt = s.abt := by simp
  cmd : r.cmd = s.cmd := by simp
  cfg : r.cfg = s.cfg := by simp
  pay : r.pay = s.pay := by simp
  done : r.done = s.done := by simp
  cmderr : r.cmderr = s.cmderr := by simp
  hosterr : r.hosterr = s.hosterr := by simp
  timeout : r.timeout = s.timeout := by simp
  cause : r.cause = s.cause := by simp
  lastto : r.lastto = s.lastto := by simp

/-- What micro-op `i` makes of `s`: it advances, or it is a WAIT whose poll is answered `false`. -/
inductive MicroEffect (i : Instr) (s : State) : State → Prop
  | advanced {r : State} (h : Advances i s r) : MicroEffect i s r
  | unbounded {c : Cond} (hi : i = .wait c) (unanswered : s.cond c = false)
      (bound : s.cfg.waitBound = none) : MicroEffect i s (s.emit 0x0#4 0#8)
  | counted {c : Cond} {k : Nat} (hi : i = .wait c) (unanswered : s.cond c = false)
      (bound : s.cfg.waitBound = some k) (below : s.polls + 1 ≠ k) :
      MicroEffect i s ((s.emit 0x0#4 0#8).setPolls (s.polls + 1))
  | timedOut {c : Cond} {k : Nat} (hi : i = .wait c) (unanswered : s.cond c = false)
      (bound : s.cfg.waitBound = some k) (reached : s.polls + 1 = k) :
      MicroEffect i s (((s.emit 0x0#4 0#8).setPolls (s.polls + 1)).abortBegin c.code)

theorem execSendByte_advances {d : Bool} {b : Byte} {s r : State}
    (h : execSendByte d b s = .next r) : Advances (.sendByte d b) s r := by
  obtain rfl := Host.Outcome.next.inj h
  cases d with
  | true => exact (show Advances _ s (s.emit 0x5#4 b).countByte.advance from {})
  | false => exact (show Advances _ s (s.emit 0x5#4 b).advance from {})

theorem execWait_effect {c : Cond} {s r : State} (h : execWait c s = .next r) :
    MicroEffect (.wait c) s r := by
  obtain rfl := Host.Outcome.next.inj h
  split
  · exact .advanced { actions := (List.append_nil _).symm, polls := .inr rfl }
  · rename_i hc
    have hc : s.cond c = false := by simpa using hc
    split
    · exact .unbounded rfl hc ‹_›
    · split
      · exact .timedOut rfl hc ‹_› ‹_›
      · exact .counted rfl hc ‹_› ‹_›

/-- Everything a micro-op can do. -/
theorem exec_microEffect {i : Instr} {s r : State} (hi : i.isHost = false)
    (h : exec i s = .next r) : MicroEffect i s r := by
  cases i with
  | nop | writeReg | readReg => cases hi
  | sendByte => exact .advanced (execSendByte_advances h)
  | wait => exact execWait_effect h
  | start | restart | stop | sendAddr | recvByte | clearAddr | ackOn | ackOff | posOn | posOff =>
    obtain rfl := Host.Outcome.next.inj h
    exact .advanced {}

/-- Retiring completes the command or changes nothing. -/
theorem State.retire_eq (r : State) : r.retire = r.complete ∨ r.retire = r := by
  unfold State.retire
  split
  · exact .inl rfl
  · exact .inr rfl

/-! ### Steps -/

/-- A reset step, a host access, and the three engine steps, by what they do. -/
inductive StepEffect (s : State) : State → Prop
  | reset (hr : s.nextInput.rst = true) (w : Word) : StepEffect s (s.sample.applyReset.setRdata w)
  | host {t : State} (hr : s.nextInput.rst = false) (hh : s.nextInput.host ≠ none)
      (h : HostEffect s.sample t) : StepEffect s t
  | idle (hr : s.nextInput.rst = false) (hh : s.nextInput.host = none) (hb : s.busy = false) :
      StepEffect s (s.sample.emit 0x0#4 0#8)
  | abort (hr : s.nextInput.rst = false) (hh : s.nextInput.host = none) (hb : s.busy = true)
      (ha : s.abt ≠ .none) : StepEffect s s.sample.abortStep
  | micro {u : HalfWord} {i : Instr} {r : State} (hr : s.nextInput.rst = false)
      (hh : s.nextInput.host = none) (hb : s.busy = true) (ha : s.abt = .none)
      (hu : s.fetch = some u) (hi : decodeMicro u = .ok i) (h : MicroEffect i s.sample r) :
      StepEffect s r.retire

theorem step_effect {s t : State} (h : step s = .next t) : StepEffect s t := by
  rcases step_cases h with ⟨hr, rfl⟩ | ⟨a, hr, hh, hacc⟩ | ⟨hr, hh, hb, rfl⟩ |
    ⟨hr, hh, hb, ha, rfl⟩ | ⟨hr, hh, hb, ha, u, i, r, hu, hi, hx, rfl⟩
  · obtain ⟨w, hw⟩ := resetStep_eq_setRdata s.sample
    exact hw ▸ .reset hr w
  · exact .host hr (by rw [← State.sample_inp, hh]; simp) (hostAccess_effect hacc)
  · exact .idle hr hh hb
  · exact .abort hr hh hb ha
  · exact .micro hr hh hb ha hu hi (exec_microEffect (decodeMicro_isHost hi) hx)

end Sys2Proof.Machine
end

section
/-! SUPPORT. What the invariant needs of the microprograms and of the recorder: the data micro-ops in
order, the fetched micro-op, the controls at the end of a program. -/
namespace Sys2Proof.Machine

/-! ### The data micro-ops of a program -/

/-- The entry at `k` that meets `p` stands, among the entries that do, behind those before `k`. -/
theorem filter_getElem?_countP_take {α : Type} {p : α → Bool} {L : List α} {k : Nat} {x : α}
    (h : L[k]? = some x) (hx : p x = true) : (L.filter p)[(L.take k).countP p]? = some x := by
  obtain ⟨hk, rfl⟩ := List.getElem?_eq_some_iff.1 h
  have hL : L.filter p = (L.take k).filter p ++ L[k] :: (L.drop (k + 1)).filter p := by
    conv_lhs => rw [← List.take_append_drop k L, List.drop_eq_getElem_cons hk]
    rw [List.filter_append, List.filter_cons_of_pos hx]
  rw [hL, List.countP_eq_length_filter, List.getElem?_append_right (Nat.le_refl _)]
  simp

theorem plainRecvs_filter_isDataOp (n : Nat) :
    (plainRecvs n).filter isDataOp =
      (List.range n).map fun i => .recvByte (BitVec.ofNat 8 i) := by
  induction n with
  | zero => rfl
  | succ n ih => simp [plainRecvs_succ, ih, List.range_succ, isDataOp]

/-- A read receives the bytes 0, 1, ..., N-1, in this order (R182). -/
theorem readProg_filter_isDataOp (p : Params) (a : HalfWord) (n : Nat) :
    (readProg p a n).filter isDataOp =
      (List.range n).map fun i => .recvByte (BitVec.ofNat 8 i) := by
  match n with
  | 0 | 1 | 2 => rfl
  | n + 3 =>
    have hr : List.range (n + 3) = List.range (n + 1) ++ [n + 1, n + 2] := by
      simp [List.range_succ]
    simp only [readProg, readData_plainRecvs, List.filter_append, plainRecvs_filter_isDataOp, hr]
    simp [progHead, arm, isDataOp, List.filter_cons]

/-- A write has no RECV_BYTE. -/
theorem recvByte_not_mem_writeProg (p : Params) (a : HalfWord) (bs : List Byte) (j : Byte) :
    .recvByte j ∉ writeProg p a bs := by
  simp [writeProg, progHead, sendData]

/-- A data micro-op of a read is the RECV_BYTE of as many bytes as are behind it. -/
theorem readProg_dataOp {p : Params} {a : HalfWord} {n k : Nat} {i : Instr}
    (h : (readProg p a n)[k]? = some i) (hi : isDataOp i = true) :
    i = .recvByte (BitVec.ofNat 8 (((readProg p a n).take k).countP isDataOp)) ∧
      ((readProg p a n).take k).countP isDataOp < n := by
  have hf := filter_getElem?_countP_take h hi
  rw [readProg_filter_isDataOp] at hf
  obtain ⟨m, hm, rfl⟩ := List.getElem?_map .. ▸ hf |> Option.map_eq_some_iff.1
  obtain ⟨hlt, rfl⟩ := List.getElem?_eq_some_iff.1 hm
  simpa using hlt

/-! ### The recorder -/

theorem recorderOf_append (l m : List Action) :
    recorderOf (l ++ m) = m.foldl recorderStep (recorderOf l) :=
  List.foldl_append

theorem isStop_eq (a : Action) : isStop a = decide (a.act.toNat = 3) := by
  simp [isStop, BitVec.toNat_eq, Bool.beq_eq_decide_eq]

theorem recorderStep_stopIssued (r : Recorder) (a : Action) :
    (recorderStep r a).stopIssued = (r.stopIssued || isStop a) := by
  unfold recorderStep
  split <;> simp_all [isStop_eq]

theorem foldl_recorderStep_stopIssued (r : Recorder) (l : List Action) :
    (l.foldl recorderStep r).stopIssued = (r.stopIssued || l.any isStop) := by
  induction l generalizing r with
  | nil => simp
  | cons a l ih => simp [ih, recorderStep_stopIssued, Bool.or_assoc]

/-- With at most one STOP among the actions, the recorder's `stopIssued` counts them. -/
theorem countP_isStop_eq_toNat {l : List Action} (h : l.countP isStop ≤ 1) :
    l.countP isStop = (recorderOf l).stopIssued.toNat := by
  rw [recorderOf, foldl_recorderStep_stopIssued]
  cases hs : l.any isStop with
  | false =>
    simpa [Recorder.init, List.countP_eq_zero] using hs
  | true =>
    have hpos : 0 < l.countP isStop := by simpa [List.countP_pos_iff] using hs
    exact Nat.le_antisymm h hpos

/-- The micro-ops that move the acknowledgment controls (R200-R203). -/
def movesControls (i : Instr) : Bool :=
  i == .ackOn || i == .ackOff || i == .posOn || i == .posOff

theorem portAction_keeps_controls (r : Recorder) {i : Instr} (h : movesControls i = false) :
    ((portAction i).toList.foldl recorderStep r).ackEn = r.ackEn ∧
      ((portAction i).toList.foldl recorderStep r).pos = r.pos := by
  cases i with
  | ackOn | ackOff | posOn | posOff => cases h
  | _ => exact ⟨rfl, rfl⟩

theorem filterMap_portAction_keeps_controls (r : Recorder) {L : List Instr}
    (h : ∀ i ∈ L, movesControls i = false) :
    ((L.filterMap portAction).foldl recorderStep r).ackEn = r.ackEn ∧
      ((L.filterMap portAction).foldl recorderStep r).pos = r.pos := by
  rw [List.filterMap_eq_flatMap_toList]
  induction L generalizing r with
  | nil => exact ⟨rfl, rfl⟩
  | cons i L ih =>
    obtain ⟨hi, hL⟩ := List.forall_mem_cons.1 h
    obtain ⟨ha, hp⟩ := portAction_keeps_controls r hi
    obtain ⟨ha', hp'⟩ := ih ((portAction i).toList.foldl recorderStep r) hL
    rw [List.flatMap_cons, List.foldl_append]
    exact ⟨ha'.trans ha, hp'.trans hp⟩

/-! ### The actions of a program -/

theorem countP_isStop_filterMap_portAction (L : List Instr) :
    (L.filterMap portAction).countP isStop = L.countP (· == .stop) := by
  rw [List.countP_filterMap]
  congr 1
  funext i
  cases i <;> rfl

theorem writeProg_movesControls (p : Params) (a : HalfWord) (bs : List Byte) :
    ∀ i ∈ writeProg p a bs, movesControls i = false := by
  simp only [writeProg, progHead, sendData, List.forall_mem_append, List.mem_flatMap]
  refine ⟨⟨by simp [movesControls], ?_⟩, by simp [movesControls]⟩
  rintro i ⟨b, -, hi⟩
  simp only [List.mem_cons, List.not_mem_nil, or_false] at hi
  obtain rfl | rfl := hi <;> rfl

theorem plainRecvs_movesControls (n : Nat) : ∀ i ∈ plainRecvs n, movesControls i = false := by
  intro i hi
  obtain ⟨j, -, hi⟩ := List.mem_flatMap.1 hi
  simp only [List.mem_cons, List.not_mem_nil, or_false] at hi
  obtain rfl | rfl := hi <;> rfl

/-- At the end of a read the acknowledgment is on and POS is off again (R206). -/
theorem recorderOf_readProg (p : Params) (a : HalfWord) (n : Nat) :
    (recorderOf ((readProg p a n).filterMap portAction)).ackEn = true ∧
      (recorderOf ((readProg p a n).filterMap portAction)).pos = false := by
  match n with
  | 0 | 1 | 2 => exact ⟨rfl, rfl⟩
  | n + 3 =>
    simp only [readProg, readData_plainRecvs, List.filterMap_append, recorderOf, List.foldl_append]
    refine ⟨rfl, ?_⟩
    exact (filterMap_portAction_keeps_controls _ (plainRecvs_movesControls (n + 1))).2

/-- A whole microprogram leaves the controls where it found them: acknowledgment on, POS off. -/
theorem IsProg.recorderOf_controls {L : List Instr} {n : Nat} (hL : IsProg L n) :
    (recorderOf (L.filterMap portAction)).ackEn = true ∧
      (recorderOf (L.filterMap portAction)).pos = false := by
  obtain ⟨p, a, bs, rfl, -⟩ | ⟨p, a, rfl⟩ := hL
  · exact filterMap_portAction_keeps_controls _ (writeProg_movesControls p a bs)
  · exact recorderOf_readProg p a n

/-! ### Fetching -/

theorem State.prog_isHost (s : State) : ∀ i ∈ s.prog, i.isHost = false := by
  by_cases h : s.cmdOp = 1#2 ∨ s.cmdOp = 2#2
  · exact (State.isProg h).isHost
  · obtain ⟨h1, h2⟩ := not_or.1 h
    simp [State.prog, h1, h2]

/-- The micro-op that runs is the microprogram's entry at `upc`. -/
theorem State.prog_of_fetch {s : State} {u : HalfWord} {i : Instr} (hu : s.fetch = some u)
    (hi : decodeMicro u = .ok i) : s.prog[s.upc.toNat]? = some i := by
  rw [State.fetch_eq] at hu
  obtain ⟨x, hx, rfl⟩ := Option.map_eq_some_iff.1 hu
  rw [decodeMicro_encodeMicro (s.prog_isHost x (List.mem_of_getElem? hx))] at hi
  rw [hx, Except.ok.inj hi]

end Sys2Proof.Machine
end

section
/-! O41. Every step keeps the invariant: to begin with, the updates that touch nothing the invariant speaks of,
then acceptance, the abort tail, and a micro-op that advances. -/
namespace Sys2Proof.Machine

/-! ### The poll bound -/

/-- `n` false polls are below WAIT_BOUND; where there is none the counter stays 0 (R184, R187). -/
def PollsBelow (p : Params) (n : Nat) : Prop :=
  match p.waitBound with
  | none => n = 0
  | some k => n < k

theorem Inv.pollsBelow {s : State} (h : Inv s) : PollsBelow s.cfg s.polls := h.pollBound

theorem pollsBelow_of_bound {p : Params} {n k : Nat} (h : p.waitBound = some k) :
    PollsBelow p n ↔ n < k := by
  simp [PollsBelow, h]

theorem PollsBelow.zero {p : Params} (h : p.wf = true) : PollsBelow p 0 := by
  cases hw : p.waitBound with
  | none => simp [PollsBelow, hw]
  | some k =>
    have hk : 1 ≤ k := by simpa [Params.wf, hw] using h
    exact (pollsBelow_of_bound hw).2 hk

/-! ### Updates beside the session -/

/-- A word store changes DATA alone. -/
theorem State.writeDataWord_eq (s : State) (j : Nat) (w : Word) :
    s.writeDataWord j w = { s with mem := (s.writeDataWord j w).mem } := rfl

section
variable {s : State} (h : Inv s)
include h

theorem Inv.sample : Inv s.sample := { h with }

theorem Inv.emit_none (b : Byte) : Inv (s.emit 0x0#4 b) := { h with }

theorem Inv.setRdata (w : Word) : Inv (s.setRdata w) := { h with }

theorem Inv.hostError {c : BitVec 4} (hc : c.toNat ≤ 6) : Inv (s.hostError c) :=
  { h with
    causes := Nat.le_succ_of_le hc
    faithful := by
      intro hn
      obtain ⟨ht, -, hl⟩ := h.faithful hn
      exact ⟨ht, by rintro rfl; exact absurd hc (by decide), hl⟩ }

theorem Inv.cmdError {c : BitVec 4} (hc : c.toNat ≤ 3) : Inv (s.cmdError c) :=
  { h.hostError (Nat.le_trans hc (by decide)) with }

theorem Inv.statusWrite (w : Word) : Inv (s.statusWrite w) :=
  { h with
    faithful := by
      intro hn
      obtain ⟨ht, hc⟩ := h.faithful hn
      exact ⟨by simp [ht], hc⟩ }

theorem Inv.setPolls {n : Nat} (hn : PollsBelow s.cfg n) (ha : s.abt = .none) (hb : s.busy = true) :
    Inv (s.setPolls n) :=
  { h with
    idle := by simp [hb]
    pollBound := hn
    abortTail := absurd ha }

/-- DATA may change while no command runs. -/
theorem Inv.setMem {m : Memory} (hm : Memory.wf m = true) (hb : s.busy = false) :
    Inv { s with mem := m } :=
  have hb' : s.busy ≠ true := by simp [hb]
  { h with
    memWf := hm
    running := fun hc => absurd hc hb'
    progress := fun hc => absurd hc hb'
    counted := fun hc => absurd hc hb'
    stored := fun hc => absurd hc hb' }

theorem Inv.writeDataWord {j : Nat} (w : Word) (hj : j + 3 < 256) (hb : s.busy = false) :
    Inv (s.writeDataWord j w) := by
  rw [State.writeDataWord_eq]
  exact h.setMem (s.wf_writeDataWord j w h.memWf hj) hb

/-- An accepted command starts afresh (R132), with the controls an idle engine has (R37). -/
theorem Inv.accept {a : HalfWord} {n : Byte} {op : BitVec 2} (hop : op = 1#2 ∨ op = 2#2)
    (hn : n ≠ 0#8) (hb : s.busy = false) : Inv (s.accept (hostWord a n op)) := by
  obtain ⟨-, -, -, hack, hpos⟩ := h.idle hb
  have hcmd : (s.accept (hostWord a n op)).cmdOp = op := hostOp_hostWord a n op
  have hlen : 1 ≤ (s.accept (hostWord a n op)).cmdLen := by
    have : n.toNat ≠ 0 := fun h0 => hn (BitVec.eq_of_toNat_eq h0)
    simp only [State.cmdLen, State.accept_cmd, hostLen_hostWord]
    omega
  have hprog := (State.isProg (hcmd.symm ▸ hop : _ ∨ _)).length hlen (State.cmdLen_le _)
  exact
    { h with
      idle := by simp
      command := fun _ => ⟨hcmd.symm ▸ hop, hostRsv_hostWord a n op, hlen⟩
      running := fun _ _ => Nat.lt_of_lt_of_le (Nat.zero_lt_succ 11) hprog.1
      progress := fun _ _ => rfl
      counted := fun _ _ => rfl
      controls := by simp [recorderOf, Recorder.init, hack, hpos]
      oneStop := rfl
      pollBound := PollsBelow.zero h.cfgWf
      abortTail := by simp
      abortStop := by simp
      abortPos := by simp
      abortAck := by simp
      stored := fun _ _ => ⟨rfl, by simp⟩
      placed := fun _ _ => List.nil_prefix
      recorded := rfl }

theorem Inv.applyReset : Inv s.applyReset where
  memWf := rfl
  cfgWf := h.cfgWf
  idle := fun _ => ⟨rfl, rfl, rfl, rfl, rfl⟩
  command := nofun
  running := nofun
  progress := nofun
  counted := nofun
  controls := rfl
  oneStop := rfl
  pollBound := PollsBelow.zero h.cfgWf
  abortTail := by simp
  abortStop := nofun
  abortPos := nofun
  abortAck := nofun
  causes := by simp
  lastWait := by simp
  faithful := by simp
  stored := nofun
  placed := nofun
  recorded := rfl

/-- No host access breaks the invariant. -/
theorem Inv.hostEffect {t : State} (ht : HostEffect s t) : Inv t := by
  cases ht with
  | ignored => exact h
  | answered w => exact h.setRdata w
  | malformedRead => exact (h.hostError (by decide)).setRdata _
  | refused c hc => exact h.hostError hc
  | commandRefused c hc => exact h.cmdError hc
  | accepted a n op hop hn idle => exact h.accept hop hn idle
  | cleared w => exact h.statusWrite w
  | stored j w hj idle => exact h.writeDataWord w hj idle

/-! ### The abort -/

/-- The k-th false poll opens the abort (R225). -/
theorem Inv.abortBegin (c : Cond) (hb : s.busy = true)
    (hw : s.cfg.waitBound.isSome = true) : Inv (s.abortBegin c.code) :=
  have hnone : (s.abortBegin c.code).abt ≠ .none := by
    rw [State.abortBegin_abt]
    split <;> simp
  have hack : (s.abortBegin c.code).abt ≠ .ackOn := by
    rw [State.abortBegin_abt]
    split <;> simp
  { h with
    idle := by simp [hb]
    running := fun _ ha => absurd ha hnone
    progress := fun _ ha => absurd ha hnone
    counted := fun _ ha => absurd ha hnone
    pollBound := PollsBelow.zero h.cfgWf
    abortTail := fun _ => ⟨hb, rfl, hw⟩
    abortStop := by intro ha; simpa using ha
    abortPos := by intro ha; simpa using ha
    abortAck := fun ha => absurd ha hack
    causes := by simp
    lastWait := by cases c <;> simp [Cond.code]
    faithful := fun (hn : s.cfg.waitBound = none) => by simp [hn] at hw }

/-- A step of the abort tail: the STOP if there was none, POS off, acknowledgment on (R226, R227). -/
theorem Inv.abortStep (ha : s.abt ≠ .none) : Inv s.abortStep := by
  obtain ⟨hb, hp, hw⟩ := h.abortTail ha
  have hrec (a : BitVec 4) (o : Byte) : recorderOf (s.actions ++ [⟨a, o⟩]) =
      recorderStep s.recorder ⟨a, o⟩ := by
    rw [recorderOf_append, h.controls]; rfl
  have hpl (a : BitVec 4) (h6 : a ≠ 0x6#4) (h2 : a ≠ 0x2#4) (o : Byte) (hop : s.cmdOp = 2#2) :
      controlTrace (s.actions ++ [⟨a, o⟩]) <+: readControls s.cmdLen := by
    rw [controlTrace_append_other _ _ h6 h2]
    exact h.placed hb hop
  cases habt : s.abt with
  | none => exact absurd habt ha
  | stop =>
    have hns := h.abortStop habt
    rw [show s.abortStep = (s.emit 0x3#4 0#8).markStop.setAbt .posOff by
      simp [State.abortStep, habt]]
    exact
      { h with
        idle := by simp [hb]
        running := by simp
        progress := by simp
        counted := by simp
        controls := hrec _ _
        oneStop := by simp [h.oneStop, hns, isStop]
        abortTail := fun _ => ⟨hb, hp, hw⟩
        abortStop := by simp
        abortPos := by simp
        abortAck := by simp
        placed := fun _ => hpl _ (by decide) (by decide) _ }
  | posOff =>
    have hst := h.abortPos habt
    rw [show s.abortStep = ((s.emit 0xB#4 0#8).setPos false).setAbt .ackOn by
      simp [State.abortStep, habt]]
    exact
      { h with
        idle := by simp [hb]
        running := by simp
        progress := by simp
        counted := by simp
        controls := hrec _ _
        oneStop := by simp [h.oneStop, hst, isStop]
        abortTail := fun _ => ⟨hb, hp, hw⟩
        abortStop := by simp
        abortPos := by simp
        abortAck := by simp [hst]
        placed := fun _ => hpl _ (by decide) (by decide) _ }
  | ackOn =>
    obtain ⟨hst, hpos⟩ := h.abortAck habt
    rw [show s.abortStep = (((s.emit 0x8#4 0#8).setAckEn true).setAbt .none).abortComplete by
      simp [State.abortStep, habt]]
    exact
      { h with
        idle := by simp [hp, hpos]
        command := by simp
        running := by simp
        progress := by simp
        counted := by simp
        controls := hrec _ _
        oneStop := by simp [h.oneStop, hst, isStop]
        abortTail := by simp
        abortStop := by simp
        abortPos := by simp
        abortAck := by simp
        faithful := fun (hn : s.cfg.waitBound = none) => by simp [hn] at hw
        stored := by simp
        placed := by simp }

end

/-! ### A micro-op that advances -/

theorem State.taken_of_not_dataOp {i : Instr} (s : State) (hd : isDataOp i = false) :
    s.taken i = (s.mem, s.received) := by
  cases i with
  | recvByte => cases hd
  | _ => rfl

section
variable {i : Instr} {s r : State} (hr : Advances i s r)
include hr

theorem Advances.cmdOp_eq : r.cmdOp = s.cmdOp := congrArg hostOp hr.cmd

theorem Advances.cmdLen_eq : r.cmdLen = s.cmdLen := congrArg (fun w => (hostLen w).toNat) hr.cmd

/-- A byte is handed over exactly where a record is taken (R207). -/
theorem Advances.recorded (h : s.records.length = s.received.length) :
    r.records.length = r.received.length := by
  have hrec := congrArg Recorder.records hr.recorder
  have hrx := congrArg Prod.snd hr.taken
  cases i with
  | recvByte j =>
    have hrec : r.records = s.records ++ [⟨s.ackEn, s.pos, s.stopIssued⟩] := hrec
    have hrx : r.received = s.received ++ [s.rx] := hrx
    simp [hrec, hrx, h]
  | _ => exact (congrArg List.length hrec).trans (h.trans (congrArg List.length hrx).symm)

theorem Advances.memWf (h : Memory.wf s.mem = true) : Memory.wf r.mem = true := by
  have hm : r.mem = (s.taken i).1 := congrArg Prod.fst hr.taken
  rw [hm]
  cases i with
  | recvByte j => exact Memory.wf_write s.rx h j.isLt
  | _ => exact h

theorem Advances.pollsBelow (h : Inv s) : PollsBelow r.cfg r.polls := by
  rw [hr.cfg]
  obtain hp | hp := hr.polls
  · exact hp ▸ h.pollsBelow
  · exact hp ▸ PollsBelow.zero h.cfgWf

/-- The recorder follows the micro-op (R207). -/
theorem Advances.controls (h : Inv s) : recorderOf r.actions = r.recorder := by
  rw [hr.actions, recorderOf_append, h.controls, hr.recorder]
  rfl

/-- In a write no micro-op takes a byte. -/
theorem Advances.taken_of_write (hi : s.prog[s.upc.toNat]? = some i) (hop : s.cmdOp = 1#2) :
    r.mem = s.mem ∧ r.received = s.received := by
  have ht := hr.taken
  cases i with
  | recvByte j =>
    rw [State.prog, if_pos hop] at hi
    exact absurd (List.mem_of_getElem? hi) (recvByte_not_mem_writeProg _ _ _ j)
  | _ => exact Prod.mk.inj ht

/-- The microprogram does not change while it runs (R146). -/
theorem Advances.prog_eq (hi : s.prog[s.upc.toNat]? = some i) : r.prog = s.prog := by
  refine State.prog_congr hr.cmd hr.cfg ?_ hr.pay
  by_cases hop : s.cmdOp = 1#2
  · exact .inl (hr.taken_of_write hi hop).1
  · exact .inr hop

theorem Advances.countP_past_le (hi : s.prog[s.upc.toNat]? = some i)
    (p : Instr → Bool) : r.past.countP p ≤ s.prog.countP p := by
  rw [State.past, hr.prog_eq hi]
  exact (List.take_sublist _ _).countP_le

end

/-- A running command that meets the invariant and stands at micro-op `i`, with no abort. -/
structure StandsAt (i : Instr) (s : State) : Prop where
  inv : Inv s
  busy : s.busy = true
  abt : s.abt = .none
  entry : s.prog[s.upc.toNat]? = some i

theorem StandsAt.isProg {i : Instr} {s : State} (hs : StandsAt i s) : IsProg s.prog s.cmdLen :=
  State.isProg (hs.inv.command hs.busy).1

theorem StandsAt.one_le_cmdLen {i : Instr} {s : State} (hs : StandsAt i s) : 1 ≤ s.cmdLen :=
  (hs.inv.command hs.busy).2.2

theorem StandsAt.upc_lt {i : Instr} {s : State} (hs : StandsAt i s) :
    s.upc.toNat < s.prog.length := hs.inv.running hs.busy hs.abt

/-- The microprogram of a running READ_REG. -/
theorem State.prog_of_read {s : State} (hop : s.cmdOp = 2#2) :
    s.prog = readProg s.cfg s.cmdAddr s.cmdLen := by
  simp [State.prog, hop]

/-- The byte that a read takes next is byte `idx`. -/
theorem StandsAt.eq_recvByte {i : Instr} {s : State} (hs : StandsAt i s) (hop : s.cmdOp = 2#2)
    (hd : isDataOp i = true) : i = .recvByte s.idx := by
  have hidx := hs.inv.counted hs.busy hs.abt
  have hi := hs.entry
  rw [State.past] at hidx
  rw [State.prog_of_read hop] at hi hidx
  rw [(readProg_dataOp hi hd).1, ← hidx, BitVec.ofNat_toNat, BitVec.setWidth_eq]

section
variable {i : Instr} {s r : State} (hr : Advances i s r) (hs : StandsAt i s)
include hr hs

theorem Advances.upc_toNat : r.upc.toNat = s.upc.toNat + 1 := by
  have hlen := (hs.isProg.length hs.one_le_cmdLen s.cmdLen_le).2
  have hupc := hs.upc_lt
  simp only [hr.upc, BitVec.toNat_add, BitVec.toNat_ofNat]
  omega

/-- The micro-op is now behind the micro-PC. -/
theorem Advances.past_eq : r.past = s.past ++ [i] := by
  rw [State.past, hr.prog_eq hs.entry, hr.upc_toNat hs, List.take_add_one, hs.entry]
  rfl

theorem Advances.progress : r.actions = r.past.filterMap portAction := by
  rw [hr.actions, hr.past_eq hs, List.filterMap_append, hs.inv.progress hs.busy hs.abt]
  cases hp : portAction i <;> simp [hp]

theorem Advances.counted : r.idx.toNat = r.past.countP isDataOp := by
  have hle := hr.countP_past_le hs.entry isDataOp
  have hlen := s.cmdLen_le
  rw [hs.isProg.countP_data hs.one_le_cmdLen] at hle
  rw [hr.past_eq hs, List.countP_append, ← hs.inv.counted hs.busy hs.abt] at hle ⊢
  rw [hr.idx]
  cases hd : isDataOp i with
  | false => simp [hd]
  | true =>
    simp only [List.countP_singleton, hd, if_true, BitVec.toNat_add, BitVec.toNat_ofNat] at hle ⊢
    omega

/-- The program's only STOP is the session's only STOP. -/
theorem Advances.oneStop : r.actions.countP isStop = r.stopIssued.toNat := by
  have hle := hr.countP_past_le hs.entry (· == .stop)
  rw [hs.isProg.countP_stop hs.one_le_cmdLen] at hle
  rw [← countP_isStop_filterMap_portAction, ← hr.progress hs] at hle
  rw [countP_isStop_eq_toNat hle, hr.controls hs.inv]
  rfl

/-- Every byte handed over in a read is in DATA at its index (R182). -/
theorem Advances.stored (hop : s.cmdOp = 2#2) : r.received.length = r.idx.toNat ∧
    ∀ j, j < r.received.length → Memory.read r.mem j = r.received[j]? := by
  obtain ⟨hlen, hread⟩ := hs.inv.stored hs.busy hop
  have hidx := hr.counted hs
  rw [hr.past_eq hs, List.countP_append, ← hs.inv.counted hs.busy hs.abt] at hidx
  cases hd : isDataOp i with
  | false =>
    obtain ⟨hm, hrx⟩ := Prod.mk.inj (hr.taken.trans (s.taken_of_not_dataOp hd))
    rw [hm, hrx, hidx]
    exact ⟨by simpa [hd] using hlen, hread⟩
  | true =>
    obtain rfl := hs.eq_recvByte hop hd
    obtain ⟨hm, hrx⟩ := Prod.mk.inj hr.taken
    rw [hm, hrx, hidx]
    refine ⟨by simp [hd, hlen], fun j hj => ?_⟩
    rw [Memory.read_write, ← hlen]
    split_ifs with hjl
    · simp [hjl]
    · have hlt : j < s.received.length := by
        simp only [List.length_append, List.length_singleton] at hj
        omega
      rw [hread j hlt, List.getElem?_append_left hlt]

/-- The controls of a read stand where R206 places them. -/
theorem Advances.placed (hop : s.cmdOp = 2#2) : controlTrace r.actions <+: readControls r.cmdLen := by
  rw [hr.progress hs, State.past, hr.prog_eq hs.entry, hr.cmdLen_eq,
    ← controlTrace_readProg s.cfg s.cmdAddr s.cmdLen hs.one_le_cmdLen]
  rw [State.prog_of_read hop]
  exact controlTrace_mono ((List.take_prefix _ _).filterMap _)

/-- While micro-ops are left, the session goes on. -/
theorem Advances.inv (hlt : r.upc.toNat < s.prog.length) : Inv r := by
  have habt : r.abt = .none := hr.abt.trans hs.abt
  exact
    { memWf := hr.memWf hs.inv.memWf
      cfgWf := hr.cfg ▸ hs.inv.cfgWf
      idle := by simp [hr.busy, hs.busy]
      command := fun _ => by
        rw [hr.cmdOp_eq, hr.cmdLen_eq, hr.cmd]
        exact hs.inv.command hs.busy
      running := fun _ _ => hr.prog_eq hs.entry ▸ hlt
      progress := fun _ _ => hr.progress hs
      counted := fun _ _ => hr.counted hs
      controls := hr.controls hs.inv
      oneStop := hr.oneStop hs
      pollBound := hr.pollsBelow hs.inv
      abortTail := absurd habt
      abortStop := by simp [habt]
      abortPos := by simp [habt]
      abortAck := by simp [habt]
      causes := hr.cause ▸ hs.inv.causes
      lastWait := hr.lastto ▸ hs.inv.lastWait
      faithful := by rw [hr.cfg, hr.timeout, hr.cause, hr.lastto]; exact hs.inv.faithful
      stored := fun _ hop => hr.stored hs (hr.cmdOp_eq ▸ hop)
      placed := fun _ hop => hr.placed hs (hr.cmdOp_eq ▸ hop)
      recorded := hr.recorded hs.inv.recorded }

/-- Behind the last micro-op the session has emitted its program's actions. -/
theorem Advances.actions_of_last (hlast : r.upc.toNat = s.prog.length) :
    r.actions = s.prog.filterMap portAction := by
  rw [hr.progress hs, State.past, hr.prog_eq hs.entry, hlast, List.take_length]

/-- Completion leaves the idle engine of R37. -/
theorem Advances.inv_complete (hlast : r.upc.toNat = s.prog.length) : Inv r.complete := by
  have habt : r.complete.abt = .none := hr.abt.trans hs.abt
  have hctl := hr.controls hs.inv
  obtain ⟨hack, hpos⟩ := hs.isProg.recorderOf_controls
  rw [← hr.actions_of_last hs hlast, hctl] at hack hpos
  exact
    { memWf := hr.memWf hs.inv.memWf
      cfgWf := (congrArg Params.wf hr.cfg).trans hs.inv.cfgWf
      idle := fun _ => ⟨rfl, habt, rfl, hack, hpos⟩
      command := by simp
      running := by simp
      progress := by simp
      counted := by simp
      controls := hctl
      oneStop := hr.oneStop hs
      pollBound := PollsBelow.zero ((congrArg Params.wf hr.cfg).trans hs.inv.cfgWf)
      abortTail := absurd habt
      abortStop := by simp [hr.abt, hs.abt]
      abortPos := by simp [hr.abt, hs.abt]
      abortAck := by simp [hr.abt, hs.abt]
      causes := by simpa [hr.cause] using hs.inv.causes
      lastWait := by simpa [hr.lastto] using hs.inv.lastWait
      faithful := by simpa [hr.cfg, hr.timeout, hr.cause, hr.lastto] using hs.inv.faithful
      stored := by simp
      placed := by simp
      recorded := hr.recorded hs.inv.recorded }

theorem Advances.inv_retire : Inv r.retire := by
  have hprog := hr.prog_eq hs.entry
  unfold State.retire
  split_ifs with hc
  · obtain ⟨-, -, hlast⟩ := hc
    exact hr.inv_complete hs (hprog ▸ hlast)
  · have hle : r.upc.toNat ≤ s.prog.length := by
      rw [hr.upc_toNat hs]
      exact hs.upc_lt
    have hne : r.upc.toNat ≠ s.prog.length := fun he =>
      hc ⟨hr.busy.trans hs.busy, hr.abt.trans hs.abt, by rw [hprog, he]⟩
    exact hr.inv hs (Nat.lt_of_le_of_ne hle hne)

end

/-! ### Steps -/

/-- A state of a session that meets the invariant is not retired. -/
theorem Inv.retire_eq {r : State} (h : Inv r) : r.retire = r := by
  unfold State.retire
  split_ifs with hc
  · obtain ⟨hb, ha, hu⟩ := hc
    exact absurd hu (Nat.ne_of_lt (h.running hb ha))
  · rfl

/-- A micro-op that does not advance polls on or opens the abort: the session goes on. -/
theorem MicroEffect.advances_or_inv {s r : State} {i : Instr} (hs : StandsAt i s)
    (hm : MicroEffect i s r) : Advances i s r ∨ Inv r ∧ r.busy = true := by
  obtain ⟨h, hb, ha, -⟩ := hs
  have hemit := h.emit_none 0#8
  cases hm with
  | advanced hr => exact .inl hr
  | unbounded => exact .inr ⟨hemit, hb⟩
  | @counted c k _ _ bound below =>
    have hlt := (pollsBelow_of_bound bound).1 h.pollsBelow
    have hnext : PollsBelow s.cfg (s.polls + 1) := (pollsBelow_of_bound bound).2 (by omega)
    exact .inr ⟨hemit.setPolls hnext ha hb, hb⟩
  | @timedOut c k _ _ bound =>
    exact .inr ⟨hemit.abortBegin c hb (by simp [bound]), hb⟩

theorem MicroEffect.inv_retire {s r : State} {i : Instr} (hs : StandsAt i s)
    (hm : MicroEffect i s r) : Inv r.retire := by
  obtain hr | ⟨hinv, -⟩ := hm.advances_or_inv hs
  · exact hr.inv_retire hs
  · exact hinv.retire_eq.symm ▸ hinv

theorem StandsAt.sample {i : Instr} {s : State} (hs : StandsAt i s) : StandsAt i s.sample where
  inv := hs.inv.sample
  busy := hs.busy
  abt := hs.abt
  entry := hs.entry

/-- Settles O41: a step is a reset, a host access, an idle engine step, a step of the abort tail or a
micro-op, and each keeps the invariant. -/
theorem stepKeepsInvariant : Obligations.StepKeepsInvariant := by
  intro s t h hst
  have hs := h.sample
  cases step_effect hst with
  | reset hr w => exact hs.applyReset.setRdata w
  | host hr hh he => exact hs.hostEffect he
  | idle hr hh hb => exact hs.emit_none 0#8
  | abort hr hh hb ha => exact hs.abortStep ha
  | micro hr hh hb ha hu hi hm =>
    exact hm.inv_retire (StandsAt.sample ⟨h, hb, ha, State.prog_of_fetch hu hi⟩)

end Sys2Proof.Machine
end

section
/-! O44. How a session ends: with its last micro-op, with the last step of the abort tail, or by a
reset. -/
namespace Sys2Proof.Machine

/-- Behind the last micro-op the STOP has been emitted. -/
theorem Advances.stopIssued_of_last {i : Instr} {s r : State} (hr : Advances i s r)
    (hs : StandsAt i s) (hlast : r.upc.toNat = s.prog.length) : r.stopIssued = true := by
  have hcount := hr.oneStop hs
  rw [hr.actions_of_last hs hlast, countP_isStop_filterMap_portAction,
    hs.isProg.countP_stop hs.one_le_cmdLen] at hcount
  cases hst : r.stopIssued with
  | true => rfl
  | false => simp [hst] at hcount

/-- A micro-op ends a session only as the last of its program (R149). -/
theorem MicroEffect.ends {i : Instr} {s r : State} (hm : MicroEffect i s r) (hs : StandsAt i s)
    (hend : r.retire.busy = false) : r.retire.stopIssued = true ∧ r.retire.done = true := by
  obtain hr | ⟨hinv, hb⟩ := hm.advances_or_inv hs
  · have hb : r.busy = true := hr.busy.trans hs.busy
    unfold State.retire at hend ⊢
    split_ifs at hend ⊢ with hc
    · obtain ⟨-, -, hlast⟩ := hc
      exact ⟨hr.stopIssued_of_last hs (hr.prog_eq hs.entry ▸ hlast), rfl⟩
    · simp [hb] at hend
  · simp [hinv.retire_eq, hb] at hend

/-- The abort tail ends a session in its ACK_ON only (R226, R227). -/
theorem State.abortStep_ends {s : State} (hb : s.busy = true) (hend : s.abortStep.busy = false) :
    s.abt = .ackOn ∧ s.abortStep.stopIssued = s.stopIssued ∧ s.abortStep.done = true := by
  cases habt : s.abt with
  | none | stop | posOff => simp [State.abortStep, habt, hb] at hend
  | ackOn => simp [State.abortStep, habt]

/-- No host access ends a session. -/
theorem HostEffect.busy {s t : State} (h : HostEffect s t) (hb : s.busy = true) :
    t.busy = true := by
  cases h with
  | stored j w hj idle => simp [hb] at idle
  | _ => simp [hb]

/-- A session that ends without a reset has emitted its STOP. -/
theorem StepEffect.ends {s t : State} (he : StepEffect s t) (h : Inv s) (hb : s.busy = true)
    (hr : s.nextInput.rst = false) (hend : t.busy = false) :
    t.stopIssued = true ∧ t.done = true := by
  cases he with
  | reset hrst => simp [hr] at hrst
  | host _ _ he => simp [he.busy hb] at hend
  | idle _ _ hidle => simp [hb] at hidle
  | abort =>
    obtain ⟨habt, hst, hdone⟩ := State.abortStep_ends (s := s.sample) hb hend
    obtain ⟨hstop, -⟩ := h.abortAck habt
    exact ⟨hst.trans hstop, hdone⟩
  | micro _ _ _ ha hu hi hm =>
    exact hm.ends (StandsAt.sample ⟨h, hb, ha, State.prog_of_fetch hu hi⟩) hend

/-- Settles O44: the invariant counts the STOPs and holds the controls of an idle engine; what is left
is that the session's STOP was emitted. -/
theorem sessionEndsWithOneStop : Obligations.SessionEndsWithOneStop := by
  intro s t h hb hst
  have he := step_effect hst
  refine ⟨fun hr hend => ?_, fun hr => ?_⟩
  · have ht := stepKeepsInvariant s t h hst
    obtain ⟨hstop, hdone⟩ := he.ends h hb hr hend
    obtain ⟨-, -, -, hack, hpos⟩ := ht.idle hend
    exact ⟨hstop, by rw [ht.oneStop, hstop]; rfl, hdone, hack, hpos⟩
  · cases he with
    | reset => simp
    | host hr' | idle hr' | abort hr' | micro hr' => simp [hr] at hr'

end Sys2Proof.Machine
end

section
/-! O8. The action port and the recorded actions. -/
namespace Sys2Proof.Machine

/-- From `s` to `t` the recording environment notes exactly the pair on the port (R23). -/
def State.Presents (s t : State) : Prop :=
  t.actions = s.actions ++ (if t.port.act = 0#4 then [] else [t.port])

theorem State.emit_presents (s : State) (act : BitVec 4) (opnd : Byte) :
    s.Presents (s.emit act opnd) := by
  unfold State.Presents
  by_cases h : act = 0#4 <;> simp [h]

theorem portAction_act_ne_zero {i : Instr} {a : Action} (h : portAction i = some a) :
    a.act ≠ 0#4 := by
  cases i with
  | nop | writeReg | readReg | wait => cases h
  | _ => obtain rfl := Option.some.inj h; simp

theorem Advances.presents {i : Instr} {s r : State} (hr : Advances i s r) : s.Presents r := by
  unfold State.Presents
  rw [hr.actions, hr.port]
  cases hp : portAction i with
  | none => simp
  | some a => simp [portAction_act_ne_zero hp]

theorem MicroEffect.presents {i : Instr} {s r : State} (h : MicroEffect i s r) : s.Presents r := by
  cases h with
  | advanced hr => exact hr.presents
  | unbounded | counted | timedOut => exact s.emit_presents 0x0#4 0#8

theorem State.retire_presents {s r : State} (h : s.Presents r) : s.Presents r.retire := by
  obtain hc | hc := r.retire_eq
  · exact hc.symm ▸ h
  · exact hc.symm ▸ h

theorem State.abortStep_presents {s : State} (ha : s.abt ≠ .none) : s.Presents s.abortStep := by
  unfold State.abortStep
  split
  · exact absurd ‹_› ha
  · exact s.emit_presents 0x3#4 0#8
  · exact s.emit_presents 0xB#4 0#8
  · exact s.emit_presents 0x8#4 0#8

theorem HostEffect.port {s t : State} (h : HostEffect s t) : t.port = s.port := by
  cases h <;> rfl

/-- Settles O8: an engine step is one micro-op, one step of the abort tail, or idle. -/
theorem stepEmitsAtMostOneAction : Obligations.StepEmitsAtMostOneAction := by
  intro s t hst
  cases step_effect hst with
  | reset hr w => exact ⟨by simp [isEngineTurn, hr], fun _ => rfl⟩
  | host hr hh he => exact ⟨by simp [isEngineTurn, hh], fun _ => he.port⟩
  | idle hr hh hb => exact ⟨fun _ => s.sample.emit_presents 0x0#4 0#8, by simp [hr, hh]⟩
  | abort hr hh hb ha =>
    exact ⟨fun _ => State.abortStep_presents (s := s.sample) ha, by simp [hr, hh]⟩
  | micro hr hh hb ha hu hi hm =>
    exact ⟨fun _ => State.retire_presents hm.presents, by simp [hr, hh]⟩

end Sys2Proof.Machine
end

section
/-! O19. The inputs a micro-op reads: WAIT its condition, RECV_BYTE the received byte. -/
namespace Sys2Proof.Machine

/-! ### A poll, case by case (R184) -/

section
variable {c : Cond} {s : State}

theorem execWait_answered (hc : s.cond c = true) :
    execWait c s = .next ((s.emit 0x0#4 0#8).setPolls 0).advance := by
  simp [execWait, hc]

theorem execWait_unbounded (hc : s.cond c = false) (hw : s.cfg.waitBound = none) :
    execWait c s = .next (s.emit 0x0#4 0#8) := by
  simp [execWait, hc, hw]

theorem execWait_timedOut (hc : s.cond c = false)
    (hw : s.cfg.waitBound = some (s.polls + 1)) :
    execWait c s = .next (((s.emit 0x0#4 0#8).setPolls (s.polls + 1)).abortBegin c.code) := by
  simp [execWait, hc, hw]

theorem execWait_counted {k : Nat} (hc : s.cond c = false) (hw : s.cfg.waitBound = some k)
    (hk : s.polls + 1 ≠ k) :
    execWait c s = .next ((s.emit 0x0#4 0#8).setPolls (s.polls + 1)) := by
  simp [execWait, hc, hw, hk]

end

/-! ### Other inputs -/

/-- `s` with other values at the input ports. -/
def State.withInput (s : State) (j : Input) : State := { s with inp := j }

theorem execWait_withInput {c : Cond} {s t : State} {j : Input}
    (hc : Conds.level j.conds c = s.cond c) (h : execWait c s = .next t) :
    execWait c (s.withInput j) = .next (t.withInput j) := by
  have hj : (s.withInput j).cond c = s.cond c := hc
  cases hs : s.cond c with
  | true =>
    obtain rfl := Host.Outcome.next.inj ((execWait_answered hs).symm.trans h)
    exact execWait_answered (hj.trans hs)
  | false =>
    cases hw : s.cfg.waitBound with
    | none =>
      obtain rfl := Host.Outcome.next.inj ((execWait_unbounded hs hw).symm.trans h)
      exact execWait_unbounded (hj.trans hs) hw
    | some k =>
      by_cases hk : s.polls + 1 = k
      · subst hk
        obtain rfl := Host.Outcome.next.inj ((execWait_timedOut hs hw).symm.trans h)
        exact execWait_timedOut (hj.trans hs) hw
      · obtain rfl := Host.Outcome.next.inj ((execWait_counted hs hw hk).symm.trans h)
        exact execWait_counted (hj.trans hs) hw hk

theorem execRecvByte_withInput {k : Byte} {s t : State} {j : Input} (hrx : j.rx = s.inp.rx)
    (h : execRecvByte k s = .next t) :
    execRecvByte k (s.withInput j) = .next (t.withInput j) := by
  obtain ⟨rst, host, conds, rx⟩ := j
  obtain rfl : rx = s.inp.rx := hrx
  obtain rfl := Host.Outcome.next.inj h
  rfl

theorem execSendByte_withInput {d : Bool} {b : Byte} {s t : State} (j : Input)
    (h : execSendByte d b s = .next t) :
    execSendByte d b (s.withInput j) = .next (t.withInput j) := by
  obtain rfl := Host.Outcome.next.inj h
  cases d <;> rfl

/-- Settles O19: only WAIT and RECV_BYTE read the inputs. -/
theorem inputsMatterOnlyWhereSampled : Obligations.InputsMatterOnlyWhereSampled := by
  intro i s t j hi hwait hrecv h
  cases i with
  | nop | writeReg | readReg => cases hi
  | wait c => exact execWait_withInput (hwait c rfl) h
  | recvByte k => exact execRecvByte_withInput (hrecv k rfl) h
  | sendByte => exact execSendByte_withInput j h
  | start | restart | stop | sendAddr | clearAddr | ackOn | ackOff | posOn | posOff =>
    obtain rfl := Host.Outcome.next.inj h
    rfl

end Sys2Proof.Machine
end

section
/-! O50. Which steps may change which flag. -/
namespace Sys2Proof.Machine

/-- R36 for a host access. -/
theorem HostEffect.flags {s t : State} (h : HostEffect s t) :
    t.ackEn = s.ackEn ∧ t.pos = s.pos ∧ (t.timeout = true → s.timeout = true) ∧
      (t.done = true → s.done = true) ∧
      (t.stopIssued ≠ s.stopIssued → s.busy = false ∧ t.busy = true) := by
  cases h with
  | accepted a n op hop hn idle => simp [idle]
  | cleared w => simp +contextual
  | stored j w => simp [State.writeDataWord]
  | _ => simp

/-- R36 for an engine step. -/
structure EngineFlags (s t : State) : Prop where
  cmderr : t.cmderr = s.cmderr
  hosterr : t.hosterr = s.hosterr
  busy : t.busy = true → s.busy = true
  done : s.done = true → t.done = true
  stopIssued : s.stopIssued = true → t.stopIssued = true
  timeout : t.timeout ≠ s.timeout → s.abt = .ackOn ∧ t.busy = false
  cause : t.cause ≠ s.cause → t.cause = 7#4 ∧ s.cfg.waitBound ≠ none

theorem State.emit_engineFlags (s : State) (act : BitVec 4) (opnd : Byte) :
    EngineFlags s (s.emit act opnd) := by
  constructor <;> simp

theorem State.abortStep_engineFlags (s : State) : EngineFlags s s.abortStep := by
  cases habt : s.abt with
  | none | stop | posOff | ackOn => constructor <;> simp [State.abortStep, habt]

theorem Advances.engineFlags {i : Instr} {s r : State} (hr : Advances i s r) :
    EngineFlags s r where
  cmderr := hr.cmderr
  hosterr := hr.hosterr
  busy := hr.busy.symm.trans
  done := hr.done.trans
  stopIssued := fun hs => by
    have hrec := congrArg Recorder.stopIssued hr.recorder
    rw [foldl_recorderStep_stopIssued] at hrec
    exact hrec.trans (by simp [State.recorder, hs])
  timeout := absurd hr.timeout
  cause := absurd hr.cause

theorem MicroEffect.engineFlags {i : Instr} {s r : State} (h : MicroEffect i s r) :
    EngineFlags s r := by
  cases h with
  | advanced hr => exact hr.engineFlags
  | unbounded => exact s.emit_engineFlags _ _
  | counted => exact { s.emit_engineFlags 0x0#4 0#8 with }
  | timedOut _ _ bound =>
    exact { s.emit_engineFlags 0x0#4 0#8 with cause := fun _ => ⟨rfl, by simp [bound]⟩ }

/-- Completion clears `busy` and sets `done`, and only these flags. -/
theorem EngineFlags.retire {s r : State} (h : EngineFlags s r) : EngineFlags s r.retire := by
  obtain hc | hc := r.retire_eq
  · rw [hc]
    exact
      { h with
        busy := by simp
        done := fun _ => rfl
        timeout := fun ht => ⟨(h.timeout ht).1, rfl⟩ }
  · rw [hc]
    exact h

theorem StepEffect.engineFlags {s t : State} (h : StepEffect s t)
    (hr : s.nextInput.rst = false) (hh : s.nextInput.host = none) : EngineFlags s.sample t := by
  cases h with
  | reset hr' => simp [hr] at hr'
  | host _ hh' => exact absurd hh hh'
  | idle => exact s.sample.emit_engineFlags _ _
  | abort => exact s.sample.abortStep_engineFlags
  | micro _ _ _ _ _ _ hm => exact hm.engineFlags.retire

theorem StepEffect.hostEffect {s t : State} (h : StepEffect s t)
    (hr : s.nextInput.rst = false) (hh : s.nextInput.host ≠ none) : HostEffect s.sample t := by
  cases h with
  | reset hr' => simp [hr] at hr'
  | host _ _ he => exact he
  | idle _ hh' | abort _ hh' | micro _ hh' => exact absurd hh' hh

/-- Settles O50: host accesses and engine steps by what they can do. -/
theorem flagsChangeOnlyByTheirRules : Obligations.FlagsChangeOnlyByTheirRules := by
  intro s t hr hst
  refine ⟨fun hh => ?_, fun hh => ?_⟩
  · have he := (step_effect hst).hostEffect hr hh
    obtain ⟨hack, hpos, hto, hdone, hstop⟩ := he.flags
    exact ⟨hack, hpos, hto, he.busy, hdone, hstop⟩
  · obtain ⟨h1, h2, h3, h4, h5, h6, h7⟩ := (step_effect hst).engineFlags hr hh
    exact ⟨h1, h2, h3, h4, h5, h6, h7⟩

end Sys2Proof.Machine
end

section
/-! O20, O21, O25, O26, O27, O56. The registers of the host port: what an admitted access answers and
stores, and the layout of each word. -/
namespace Sys2Proof.Machine

/-! ### Admitted accesses -/

/-- An admitted read answers the register and changes nothing else (R35). -/
theorem hostAccess_read_admitted (s : State) {off : Nat} (hw : off < 0x200) (h4 : off % 4 = 0) :
    hostAccess (.read off .w4) s = .next { s with rdata := s.regRead off } := by
  simp [hostAccess, hostRead, inWindow, aligned4, hw, h4, State.setRdata]

/-- A write above STATUS and below DATA is ignored (R35). -/
theorem hostAccess_write_ignored (s : State) (v : Word) {off : Nat} (hlo : 0x008 ≤ off)
    (hhi : off < 0x100) (h4 : off % 4 = 0) : hostAccess (.write off .w4 v) s = .next s := by
  have hw : off < 0x200 := by omega
  have h0 : off ≠ 0x000 := by omega
  have hs : off ≠ 0x004 := by omega
  simp [hostAccess, hostWrite, inWindow, aligned4, hw, h4, h0, hs, hhi]

/-- A write to DATA word `k` of an idle engine stores the word (R34). -/
theorem hostAccess_write_data {s : State} (hb : s.busy = false) {k : Nat} (hk : k < 64) (w : Word) :
    hostAccess (.write (0x100 + 4 * k) .w4 w) s = .next (s.writeDataWord (4 * k) w) := by
  have hw : 0x100 + 4 * k < 0x200 := by omega
  have h4 : (0x100 + 4 * k) % 4 = 0 := by omega
  have hs : 0x100 + 4 * k ≠ 0x004 := by omega
  simp [hostAccess, hostWrite, hostDataWrite, inWindow, aligned4, hw, h4, hs, hb]

theorem State.regRead_reserved (s : State) {off : Nat} (hlo : 0x010 ≤ off) (hhi : off < 0x100) :
    s.regRead off = 0#32 := by
  have h0 : off ≠ 0x000 := by omega
  have h1 : off ≠ 0x004 := by omega
  have h2 : off ≠ 0x008 := by omega
  have h3 : off ≠ 0x00C := by omega
  simp [State.regRead, h0, h1, h2, h3, hhi]

theorem State.regRead_data (s : State) (k : Nat) :
    s.regRead (0x100 + 4 * k) = s.hostDataWord (4 * k) := by
  have h1 : 0x100 + 4 * k ≠ 0x004 := by omega
  have h2 : 0x100 + 4 * k ≠ 0x008 := by omega
  have h3 : 0x100 + 4 * k ≠ 0x00C := by omega
  simp [State.regRead, h1, h2, h3]

theorem hostAccess_read_data (s : State) {k : Nat} (hk : k < 64) :
    hostAccess (.read (0x100 + 4 * k) .w4) s = .next { s with rdata := s.hostDataWord (4 * k) } := by
  rw [hostAccess_read_admitted s (by omega) (by omega), State.regRead_data]

/-! ### STATUS (R29) -/

section
variable (s : State)

theorem State.statusWord_flags :
    s.statusWord.getLsbD 0 = s.busy ∧ s.statusWord.getLsbD 1 = s.done ∧
      s.statusWord.getLsbD 2 = s.cmderr ∧ s.statusWord.getLsbD 3 = s.hosterr ∧
      s.statusWord.getLsbD 4 = s.timeout ∧ s.statusWord.getLsbD 11 = false := by
  unfold State.statusWord
  refine ⟨?_, ?_, ?_, ?_, ?_, ?_⟩
  all_goals
    simp only [BitVec.getLsbD_append]
    simp

theorem State.statusWord_fields :
    s.statusWord.extractLsb' 5 3 = 0#3 ∧ s.statusWord.extractLsb' 8 3 = phaseCode s.phase ∧
      s.statusWord.extractLsb' 12 4 = s.waitcond ∧ s.statusWord.extractLsb' 16 8 = s.idx ∧
      s.statusWord.extractLsb' 24 4 = s.lastto ∧ s.statusWord.extractLsb' 28 4 = s.cause := by
  unfold State.statusWord
  refine ⟨?_, ?_, ?_, ?_, ?_, ?_⟩
  all_goals
    simp (disch := decide) only [BitVec.extractLsb'_append_eq_of_le,
      BitVec.extractLsb'_append_eq_of_add_le]
    simp

theorem hostAccess_read_status :
    hostAccess (.read 0x004 .w4) s = .next { s with rdata := s.statusWord } := rfl

/-- Where the mask bit is 1 the flag is cleared, else it stays. -/
theorem and_not_eq_ite (flag mask : Bool) :
    (flag && !mask) = if mask = true then false else flag := by
  cases mask <;> simp

theorem hostAccess_write_status (w : Word) : hostAccess (.write 0x004 .w4 w) s = .next { s with
    done := if w.getLsbD 1 = true then false else s.done
    cmderr := if w.getLsbD 2 = true then false else s.cmderr
    hosterr := if w.getLsbD 3 = true then false else s.hosterr
    timeout := if w.getLsbD 4 = true then false else s.timeout } := by
  simp only [← and_not_eq_ite]
  rfl

end

/-- Settles O20: the layout of STATUS, its write-1-to-clear, and its reset value. -/
theorem statusRegister : Obligations.StatusRegister := by
  refine ⟨fun s => ⟨s.statusWord, hostAccess_read_status s, ?_⟩, hostAccess_write_status, by decide⟩
  obtain ⟨hbusy, hdone, hcmderr, hhosterr, htimeout, h11⟩ := s.statusWord_flags
  obtain ⟨h5, hphase, hwait, hidx, hlast, hcause⟩ := s.statusWord_fields
  exact ⟨hbusy, hdone, hcmderr, hhosterr, htimeout, h5, hphase, h11, hwait, hidx, hlast, hcause⟩

/-! ### WAITCOND (R30) -/

section
variable {s : State}

theorem State.waitcond_at_wait {c : Cond} (hb : s.busy = true) (ha : s.abt = .none)
    (hw : s.prog[s.upc.toNat]? = some (.wait c)) : s.waitcond = c.code := by
  simp [State.waitcond, hb, ha, hw]

theorem State.waitcond_of_not_running (h : ¬(s.busy = true ∧ s.abt = .none)) :
    s.waitcond = 0#4 := if_neg h

theorem State.waitcond_of_no_wait (h : ∀ c, s.prog[s.upc.toNat]? ≠ some (.wait c)) :
    s.waitcond = 0#4 := by
  unfold State.waitcond
  split
  · split
    · exact absurd ‹_› (h _)
    · rfl
  · rfl

end

/-- Settles O56: the WAITCOND field of STATUS in each of its four cases. -/
theorem waitcondTable : Obligations.WaitcondTable := by
  intro s
  obtain ⟨hbusy, -⟩ := s.statusWord_flags
  obtain ⟨-, -, hwait, -⟩ := s.statusWord_fields
  refine ⟨s.statusWord, hostAccess_read_status s, fun c hb ha hw => ?_, fun hb => ?_, fun ha => ?_,
    fun hn => ?_⟩
  · rw [hbusy, hwait, State.waitcond_at_wait hb ha hw]
    exact ⟨hb, by cases c <;> rfl⟩
  · rw [hwait, State.waitcond_of_not_running (by simp [hb])]
  · rw [hwait, State.waitcond_of_not_running (by simp [ha])]
  · rw [hwait, State.waitcond_of_no_wait hn]

/-! ### ACKCTL and INFO (R32, R33) -/

theorem State.ackctlWord_fields (s : State) :
    s.ackctlWord.getLsbD 0 = s.ackEn ∧ s.ackctlWord.getLsbD 1 = s.pos ∧
      s.ackctlWord.getLsbD 2 = s.stopIssued ∧ s.ackctlWord.extractLsb' 3 29 = 0#29 := by
  unfold State.ackctlWord
  refine ⟨?_, ?_, ?_, ?_⟩
  case refine_4 =>
    simp (disch := decide) only [BitVec.extractLsb'_append_eq_of_le]
    simp
  all_goals
    simp only [BitVec.getLsbD_append]
    simp

theorem State.infoWord_fields (s : State) :
    s.infoWord.extractLsb' 0 7 = s.cfg.devAddr7 ∧ s.infoWord.extractLsb' 8 8 = Config.maxLen ∧
      s.infoWord.extractLsb' 17 15 = 0#15 := by
  unfold State.infoWord
  refine ⟨?_, ?_, ?_⟩
  all_goals
    simp (disch := decide) only [BitVec.extractLsb'_append_eq_of_le,
      BitVec.extractLsb'_append_eq_of_add_le]
    simp

theorem State.infoWord_bits (s : State) :
    s.infoWord.getLsbD 7 = false ∧ s.infoWord.getLsbD 16 = s.cfg.waitBound.isSome := by
  unfold State.infoWord
  refine ⟨?_, ?_⟩
  all_goals
    simp only [BitVec.getLsbD_append]
    simp

/-- Settles O21: the layouts of ACKCTL and INFO; writes to either are ignored. -/
theorem ackctlAndInfoRegisters : Obligations.AckctlAndInfoRegisters := by
  refine ⟨fun s => ⟨s.ackctlWord, rfl, s.ackctlWord_fields⟩, fun s => ⟨s.infoWord, rfl, ?_⟩,
    fun s v => ⟨?_, ?_⟩, by decide⟩
  · obtain ⟨haddr, hlen, hzero⟩ := s.infoWord_fields
    obtain ⟨h7, h16⟩ := s.infoWord_bits
    refine ⟨haddr, h7, hlen, ?_, hzero⟩
    rw [h16, Option.isSome_iff_ne_none]
  · exact hostAccess_write_ignored s v (by decide) (by decide) (by decide)
  · exact hostAccess_write_ignored s v (by decide) (by decide) (by decide)

/-- Settles O27: reads go through one law, ignored writes through another. -/
theorem readsHaveNoSideEffects : Obligations.ReadsHaveNoSideEffects := by
  intro s off v hw h4
  refine ⟨⟨s.regRead off, hostAccess_read_admitted s hw h4, ?_, ?_⟩, ?_⟩
  · rintro rfl
    rfl
  · exact s.regRead_reserved
  · exact fun hlo hhi => hostAccess_write_ignored s v hlo hhi h4

/-! ### DATA (R34, R75) -/

/-- Byte `j` of a DATA word read. -/
theorem State.hostDataWord_byte (s : State) (b : Nat) {j : Nat} (hj : j < 4) :
    (s.hostDataWord b).extractLsb' (8 * j) 8 = s.hostByte (b + j) := by
  unfold State.hostDataWord
  match j, hj with
  | 0, _ | 1, _ | 2, _ | 3, _ =>
    simp (disch := decide) only [BitVec.extractLsb'_append_eq_of_le,
      BitVec.extractLsb'_append_eq_of_add_le]
    simp

/-- Settles O26: each byte of a DATA word is the listed byte or this step's draw. -/
theorem dataWordReads : Obligations.DataWordReads := by
  intro s k j hk hj
  refine ⟨s.hostDataWord (4 * k), hostAccess_read_data s hk, ?_⟩
  rw [s.hostDataWord_byte _ hj, State.hostByte, State.dataByte]
  cases Memory.read s.mem (4 * k + j) with
  | none => rfl
  | some b => rfl

/-- A word is its four bytes. -/
theorem word_bytes (w : Word) :
    w.extractLsb' 24 8 ++ w.extractLsb' 16 8 ++ w.extractLsb' 8 8 ++ w.extractLsb' 0 8 = w := by
  have h1 : w.extractLsb' 24 8 ++ w.extractLsb' 16 8 = w.extractLsb' 16 16 :=
    BitVec.extractLsb'_append_extractLsb'_eq_extractLsb' rfl
  have h2 : w.extractLsb' 16 16 ++ w.extractLsb' 8 8 = w.extractLsb' 8 24 :=
    BitVec.extractLsb'_append_extractLsb'_eq_extractLsb' rfl
  have h3 : w.extractLsb' 8 24 ++ w.extractLsb' 0 8 = w.extractLsb' 0 32 :=
    BitVec.extractLsb'_append_extractLsb'_eq_extractLsb' rfl
  rw [h1, h2, h3]
  exact BitVec.extractLsb'_eq_self

theorem State.read_writeDataWord_byte (s : State) (b : Nat) (w : Word) {j : Nat} (hj : j < 4) :
    Memory.read (s.writeDataWord b w).mem (b + j) = some (w.extractLsb' (8 * j) 8) := by
  rw [State.read_writeDataWord]
  match j, hj with
  | 0, _ | 1, _ | 2, _ | 3, _ => simp

theorem State.hostByte_writeDataWord (s : State) (b : Nat) (w : Word) {j : Nat} (hj : j < 4) :
    (s.writeDataWord b w).hostByte (b + j) = w.extractLsb' (8 * j) 8 := by
  rw [State.hostByte, State.dataByte, s.read_writeDataWord_byte b w hj, Option.getD_some]

/-- A stored word reads back. -/
theorem State.hostDataWord_writeDataWord (s : State) (b : Nat) (w : Word) :
    (s.writeDataWord b w).hostDataWord b = w := by
  have h0 : (s.writeDataWord b w).hostByte b = w.extractLsb' 0 8 :=
    s.hostByte_writeDataWord b w (j := 0) (by decide)
  have h1 := s.hostByte_writeDataWord b w (j := 1) (by decide)
  have h2 := s.hostByte_writeDataWord b w (j := 2) (by decide)
  have h3 := s.hostByte_writeDataWord b w (j := 3) (by decide)
  rw [State.hostDataWord, h3, h2, h1, h0]
  exact word_bytes w

/-- Settles O25: the store is `writeDataWord`, whose bytes, frame and canonical form are laws of DATA. -/
theorem dataWordStoresFourBytes : Obligations.DataWordStoresFourBytes := by
  intro s k w hb hk
  refine ⟨(s.writeDataWord (4 * k) w).mem, hostAccess_write_data hb hk w,
    fun j hj => s.read_writeDataWord_byte _ w hj, fun a ha => ?_,
    fun hm => s.wf_writeDataWord _ w hm (by omega), ?_⟩
  · rw [State.read_writeDataWord, if_neg (by omega), if_neg (by omega), if_neg (by omega),
      if_neg (by omega)]
  · have hword := s.hostDataWord_writeDataWord (4 * k) w
    rw [State.writeDataWord_eq] at hword
    rw [hostAccess_read_data _ hk, hword]

end Sys2Proof.Machine
end

section
/-! O22, O23. Host accesses the engine refuses because of their form, and those it does not decode. -/
namespace Sys2Proof.Machine

theorem aligned4_eq_false {off : Nat} {n : Width} :
    aligned4 off n = false ↔ n ≠ .w4 ∨ off % 4 ≠ 0 := by
  rw [aligned4, Bool.and_eq_false_iff, decide_eq_false_iff_not, decide_eq_false_iff_not]

theorem inWindow_eq_false {off : Nat} : inWindow off = false ↔ 0x200 ≤ off := by
  rw [inWindow, decide_eq_false_iff_not, Nat.not_lt]

section
variable (s : State) {off : Nat} {n : Width}

/-- A malformed write is refused with cause 6 and discarded (R71, R223). -/
theorem hostWrite_malformed (v : Word) (hw : off < 0x200) (hm : n ≠ .w4 ∨ off % 4 ≠ 0) :
    hostWrite off n v s = .next (s.hostError 6#4) := by
  rw [hostWrite, if_neg (mt inWindow_eq_false.1 (Nat.not_le.2 hw)), if_pos (aligned4_eq_false.2 hm)]

/-- A malformed read is refused with cause 6 and returns 0 (R71, R223). -/
theorem hostRead_malformed (hw : off < 0x200) (hm : n ≠ .w4 ∨ off % 4 ≠ 0) :
    hostRead off n s = (s.hostError 6#4).setRdata 0#32 := by
  rw [hostRead, if_neg (mt inWindow_eq_false.1 (Nat.not_le.2 hw)), if_pos (aligned4_eq_false.2 hm)]

theorem hostWrite_outside (v : Word) (ho : 0x200 ≤ off) : hostWrite off n v s = .next s := by
  rw [hostWrite, if_pos (inWindow_eq_false.2 ho)]

/-- A read outside the window is the platform's to answer (log 5). -/
theorem hostRead_outside (ho : 0x200 ≤ off) :
    hostRead off n s = s.setRdata (Config.platformRead s.tick off) := by
  rw [hostRead, if_pos (inWindow_eq_false.2 ho)]

end

/-- Settles O22: inside the window the form is checked before the register. -/
theorem malformedAccessRefused : Obligations.MalformedAccessRefused := by
  intro s off n v hw hm
  exact ⟨hostWrite_malformed s v hw hm, congrArg _ (hostRead_malformed s hw hm)⟩

/-- Settles O23: the window is checked before the form. -/
theorem outsideTheWindow : Obligations.OutsideTheWindow := by
  intro s off n v ho
  exact ⟨hostWrite_outside s v ho, congrArg _ (hostRead_outside s ho)⟩

end Sys2Proof.Machine
end

section
/-! O46. A command that completes without an abort does so with its last micro-op, and then every byte of
a READ_REG has been handed over. -/
namespace Sys2Proof.Machine

/-- A micro-op that ends the session advances behind the last of the program and completes it (R149). -/
theorem MicroEffect.completes {i : Instr} {s r : State} (hm : MicroEffect i s r) (hs : StandsAt i s)
    (hend : r.retire.busy = false) :
    Advances i s r ∧ r.upc.toNat = s.prog.length ∧ r.retire = r.complete := by
  obtain hr | ⟨hinv, hb⟩ := hm.advances_or_inv hs
  · have hb : r.busy = true := hr.busy.trans hs.busy
    unfold State.retire at hend ⊢
    split_ifs at hend ⊢ with hc
    · obtain ⟨-, -, hlast⟩ := hc
      exact ⟨hr, hr.prog_eq hs.entry ▸ hlast, rfl⟩
    · simp [hb] at hend
  · simp [hinv.retire_eq, hb] at hend

/-- Without a reset and without an abort, a step that ends a session is that of its last micro-op. -/
theorem StepEffect.completes {s t : State} (he : StepEffect s t) (h : Inv s) (hb : s.busy = true)
    (ha : s.abt = .none) (hr : s.nextInput.rst = false) (hend : t.busy = false) :
    ∃ i r, StandsAt i s.sample ∧ Advances i s.sample r ∧ r.upc.toNat = s.prog.length ∧
      t = r.complete := by
  cases he with
  | reset hrst => simp [hr] at hrst
  | host _ _ he => simp [he.busy hb] at hend
  | idle _ _ hidle => simp [hb] at hidle
  | abort _ _ _ habt => exact absurd ha habt
  | @micro _ i r _ _ _ _ hu hi hm =>
    have hs : StandsAt i s.sample := StandsAt.sample ⟨h, hb, ha, State.prog_of_fetch hu hi⟩
    obtain ⟨hadv, hlast, hret⟩ := hm.completes hs hend
    exact ⟨i, r, hs, hadv, hlast, hret⟩

/-- Behind the last micro-op the session has moved all its data bytes (R187). -/
theorem Advances.idx_of_last {i : Instr} {s r : State} (hr : Advances i s r) (hs : StandsAt i s)
    (hlast : r.upc.toNat = s.prog.length) : r.idx.toNat = s.cmdLen := by
  rw [hr.counted hs, State.past, hr.prog_eq hs.entry, hlast, List.take_length,
    hs.isProg.countP_data hs.one_le_cmdLen]

/-- A byte listed in DATA is no draw. -/
theorem State.dataByte_of_read {s : State} {j : Nat} {b : Byte} (h : Memory.read s.mem j = some b)
    (d : Nat) : s.dataByte d j = b := by
  rw [State.dataByte, h, Option.getD_some]

/-- Settles O46: the completing step is that of the last micro-op, behind which a read has stored each
byte handed over (`Advances.stored`) and counted LEN of them. -/
theorem completionPublishesResult : Obligations.CompletionPublishesResult := by
  intro s t h hb ha hr hop hst hend
  obtain ⟨i, r, hs, hadv, hlast, rfl⟩ := (step_effect hst).completes h hb ha hr hend
  obtain ⟨hlen, hread⟩ := hadv.stored hs hop
  have hreceived : r.received.length = s.cmdLen := hlen.trans (hadv.idx_of_last hs hlast)
  refine ⟨hreceived, fun j hj d => ?_⟩
  have hj : j < r.received.length := hreceived.symm ▸ hj
  have hbyte : Memory.read r.complete.mem j = some r.received[j] :=
    (hread j hj).trans (List.getElem?_eq_getElem hj)
  rw [State.dataByte_of_read hbyte]
  exact (List.getElem?_eq_getElem hj).symm

end Sys2Proof.Machine
end

section
/-! O1, O2, O3. Words and instructions: which word each instruction has at its level, read both
ways, and with it the patterns of R107. -/
namespace Sys2Proof

/-! ### Host command words (R100, R106) -/

theorem decodeHost_nop (a : HalfWord) (n : Byte) : decodeHost (hostWord a n 0#2) = .ok .nop := by
  simp [decodeHost, hostOp_hostWord, hostRsv_hostWord]

theorem decodeHost_writeReg (a : HalfWord) (n : Byte) :
    decodeHost (hostWord a n 1#2) = .ok (.writeReg a n) := by
  simp [decodeHost, hostOp_hostWord, hostRsv_hostWord, hostAddr_hostWord, hostLen_hostWord]

theorem decodeHost_readReg (a : HalfWord) (n : Byte) :
    decodeHost (hostWord a n 2#2) = .ok (.readReg a n) := by
  simp [decodeHost, hostOp_hostWord, hostRsv_hostWord, hostAddr_hostWord, hostLen_hostWord]

/-- Decoding undoes encoding on every host command. -/
theorem decodeHost_encodeHost {i : Instr} (hi : i.isHost = true) :
    decodeHost (encodeHost i) = .ok i := by
  cases i with
  | nop => exact decodeHost_nop _ _
  | writeReg a n => exact decodeHost_writeReg a n
  | readReg a n => exact decodeHost_readReg a n
  | _ => cases hi

/-- A word with RSV = 0 is laid out from its other fields. -/
theorem hostWord_of_hostRsv {w : Word} (h : hostRsv w = 0#6) :
    hostWord (hostAddr w) (hostLen w) (hostOp w) = w := by
  have hw := hostWord_fields w
  rwa [show w.extractLsb' 2 6 = 0#6 from h] at hw

/-- The only OP code beside the three others (R106). -/
theorem eq_two_of_ne {op : BitVec 2} (h3 : op ≠ 3#2) (h0 : op ≠ 0#2) (h1 : op ≠ 1#2) :
    op = 2#2 := by
  decide +revert

/-- Encoding undoes decoding on every host word but a NOP's, whose LEN and REGADDR are ignored. -/
theorem encodeHost_of_decodeHost {w : Word} {i : Instr} (h : decodeHost w = .ok i)
    (hi : i ≠ .nop) : encodeHost i = w := by
  unfold decodeHost at h
  split_ifs at h with h3 hrsv h0 h1
  · exact absurd (Except.ok.inj h).symm hi
  · obtain rfl := Except.ok.inj h
    have hw := hostWord_of_hostRsv (not_not.1 hrsv)
    rwa [h1] at hw
  · obtain rfl := Except.ok.inj h
    have hw := hostWord_of_hostRsv (not_not.1 hrsv)
    rwa [eq_two_of_ne h3 h0 h1] at hw

/-! ### Micro-op words (R101, R107) -/

section
variable {u : HalfWord}

/-- A word whose ACT code is written out. -/
theorem microWord_eq_of_act {k : Nat} {c : BitVec 4} {o : Byte} (hact : (microAct u).toNat = k)
    (h : microWord (microAct u) c o = u) : microWord (BitVec.ofNat 4 k) c o = u := by
  rwa [← hact, BitVec.ofNat_toNat, BitVec.setWidth_eq]

/-- A word's three fields determine it and are determined by it. -/
theorem microWord_inj {a a' c c' : BitVec 4} {o o' : Byte} :
    microWord a c o = microWord a' c' o' ↔ a = a' ∧ c = c' ∧ o = o' := by
  constructor
  · intro h
    refine ⟨?_, ?_, ?_⟩
    · rw [← microAct_microWord a c o, h, microAct_microWord]
    · rw [← microCond_microWord a c o, h, microCond_microWord]
    · rw [← microOpnd_microWord a c o, h, microOpnd_microWord]
  · rintro ⟨rfl, rfl, rfl⟩
    rfl

theorem microWord_of_decodeU0 {i j : Instr} (h : decodeU0 i u = .ok j) :
    microWord (microAct u) 0#4 0#8 = u := by
  unfold decodeU0 at h
  split_ifs at h with hc ho
  conv_rhs => rw [← microWord_fields u, not_not.1 hc, not_not.1 ho]

theorem microWord_of_decodeUB {mk : Byte → Instr} {j : Instr} (h : decodeUB mk u = .ok j) :
    microWord (microAct u) 0#4 (microOpnd u) = u := by
  unfold decodeUB at h
  split_ifs at h with hc
  conv_rhs => rw [← microWord_fields u, not_not.1 hc]

/-- A code is its three upper bits, all 0 in a SEND_BYTE word, and the bit D. -/
theorem eq_append_ofBool_iff (c : BitVec 4) (d : Bool) :
    c = 0#3 ++ BitVec.ofBool d ↔ c.extractLsb' 1 3 = 0#3 ∧ d = c.getLsbD 0 := by
  decide +revert

/-- The mask of COND[3:1]. -/
theorem and_mask_eq_zero_iff (c : BitVec 4) : c &&& 0xE#4 = 0#4 ↔ c.extractLsb' 1 3 = 0#3 := by
  decide +revert

theorem microCond_getLsbD_zero (u : HalfWord) : (microCond u).getLsbD 0 = u.getLsbD 8 := by
  simp [microCond]

theorem microCond_extractLsb' (u : HalfWord) :
    (microCond u).extractLsb' 1 3 = u.extractLsb' 9 3 := by
  ext i hi
  simp only [microCond, BitVec.getElem_extractLsb', BitVec.getLsbD_extractLsb', ← Nat.add_assoc]
  simp [show 1 + i < 4 by omega]

theorem microWord_of_decodeUD {j : Instr} (h : decodeUD u = .ok j) :
    microWord (microAct u) (0#3 ++ BitVec.ofBool (u.getLsbD 8)) (microOpnd u) = u := by
  unfold decodeUD at h
  split_ifs at h with hz
  have hc : microCond u = 0#3 ++ BitVec.ofBool (u.getLsbD 8) :=
    (eq_append_ofBool_iff _ _).2
      ⟨(microCond_extractLsb' u).trans (not_not.1 hz), (microCond_getLsbD_zero u).symm⟩
  rw [← hc, microWord_fields]

theorem code_of_condOfCode {k : BitVec 4} {c : Cond} (h : condOfCode k = some c) : c.code = k := by
  unfold condOfCode at h
  split_ifs at h with h1 h2 h3 h4 h5 <;> obtain rfl := Option.some.inj h
  exacts [h1.symm, h2.symm, h3.symm, h4.symm, h5.symm]

theorem microWord_of_decodeUW {c : Cond} (h : decodeUW u = .ok (.wait c)) :
    microWord (microAct u) c.code 0#8 = u := by
  unfold decodeUW at h
  split_ifs at h with ho
  split at h
  · rename_i c' hc
    obtain rfl := Instr.wait.inj (Except.ok.inj h)
    conv_rhs => rw [← microWord_fields u, ← code_of_condOfCode hc, not_not.1 ho]
  · cases h

/-- Encoding undoes decoding on every micro-op word, format by format. -/
theorem encodeMicro_of_decodeMicro {i : Instr} (h : decodeMicro u = .ok i) :
    encodeMicro i = u := by
  unfold decodeMicro at h
  split at h
  case h_5 hact =>
    obtain rfl := decodeUD_ok h
    exact microWord_eq_of_act hact (microWord_of_decodeUD h)
  case h_12 hact =>
    obtain ⟨c, rfl⟩ := decodeUW_ok h
    exact microWord_eq_of_act hact (microWord_of_decodeUW h)
  case h_13 => cases h
  case h_4 hact | h_6 hact =>
    obtain rfl := decodeUB_ok h
    exact microWord_eq_of_act hact (microWord_of_decodeUB h)
  all_goals
    rename_i hact
    obtain rfl := decodeU0_ok h
    exact microWord_eq_of_act hact (microWord_of_decodeU0 h)

end

/-- A word decodes to a micro-op exactly if it is the word of that micro-op. -/
theorem decodeMicro_eq_ok_iff {u : HalfWord} {i : Instr} :
    decodeMicro u = .ok i ↔ i.isHost = false ∧ u = encodeMicro i := by
  constructor
  · exact fun h => ⟨decodeMicro_isHost h, (encodeMicro_of_decodeMicro h).symm⟩
  · rintro ⟨hi, rfl⟩
    exact decodeMicro_encodeMicro hi

theorem encode_of_isHost {i : Instr} (hi : i.isHost = true) : encode i = .host (encodeHost i) :=
  if_pos hi

theorem encode_of_not_isHost {i : Instr} (hi : i.isHost = false) :
    encode i = .micro (encodeMicro i) :=
  if_neg (by simp [hi])

/-- Settles O1: each level has its inverse laws, and a word says its level. -/
theorem decodeInvertsEncode : Obligations.DecodeInvertsEncode := by
  refine ⟨fun i => ?_, fun u i h => ?_, fun w i h hnop => ?_⟩
  · cases hi : i.isHost with
    | true => rw [encode_of_isHost hi]; exact decodeHost_encodeHost hi
    | false => rw [encode_of_not_isHost hi]; exact decodeMicro_encodeMicro hi
  · obtain ⟨hi, rfl⟩ := decodeMicro_eq_ok_iff.1 h
    exact encode_of_not_isHost hi
  · rw [encode_of_isHost (decodeHost_isHost h), encodeHost_of_decodeHost h hnop]

/-! ### Mask and match (R107) -/

theorem microWord_and (a c a' c' : BitVec 4) (o o' : Byte) :
    microWord a c o &&& microWord a' c' o' = microWord (a &&& a') (c &&& c') (o &&& o') :=
  BitVec.and_append.trans (congrArg (· ++ (o &&& o')) BitVec.and_append)

/-- A masked word, field by field. -/
theorem and_microWord_eq_iff {u : HalfWord} {am cm a c : BitVec 4} {om o : Byte} :
    u &&& microWord am cm om = microWord a c o ↔
      microAct u &&& am = a ∧ microCond u &&& cm = c ∧ microOpnd u &&& om = o := by
  conv_lhs => rw [← microWord_fields u, microWord_and]
  exact microWord_inj

theorem eq_microWord_iff {u : HalfWord} {a c : BitVec 4} {o : Byte} :
    u = microWord a c o ↔ microAct u = a ∧ microCond u = c ∧ microOpnd u = o := by
  conv_lhs => rw [← microWord_fields u]
  exact microWord_inj

theorem microOpnd_eq_setWidth (u : HalfWord) : microOpnd u = u.setWidth 8 :=
  (BitVec.setWidth_eq_extractLsb' (by decide)).symm

section
variable {u : HalfWord} {a : BitVec 4}

/-- Format U0: the mask is the whole word. -/
theorem eq_word_iff {w : HalfWord} : u = w ↔ u &&& 0xFFFF#16 = w := by
  rw [show 0xFFFF#16 = BitVec.allOnes 16 from rfl, BitVec.and_allOnes]

/-- Format UB: ACT and COND are fixed, OPND is the operand. -/
theorem eq_wordUB_iff {b : Byte} :
    u = microWord a 0#4 b ↔ u &&& 0xFF00#16 = microWord a 0#4 0#8 ∧ b = u.setWidth 8 := by
  rw [show 0xFF00#16 = microWord (BitVec.allOnes 4) (BitVec.allOnes 4) 0#8 from rfl,
    and_microWord_eq_iff, eq_microWord_iff, ← microOpnd_eq_setWidth]
  simp only [BitVec.and_allOnes, BitVec.and_zero, and_true, and_assoc, eq_comm (a := b)]

/-- Format UD: ACT and COND[3:1] are fixed, COND[0] is D, OPND is the operand. -/
theorem eq_wordUD_iff {d : Bool} {b : Byte} :
    u = microWord a (0#3 ++ BitVec.ofBool d) b ↔
      u &&& 0xFE00#16 = microWord a 0#4 0#8 ∧ d = u.getLsbD 8 ∧ b = u.setWidth 8 := by
  rw [show 0xFE00#16 = microWord (BitVec.allOnes 4) 0xE#4 0#8 from rfl,
    and_microWord_eq_iff, eq_microWord_iff, eq_append_ofBool_iff, and_mask_eq_zero_iff,
    ← microOpnd_eq_setWidth, ← microCond_getLsbD_zero]
  simp only [BitVec.and_allOnes, BitVec.and_zero, and_true, and_assoc, eq_comm (a := b)]

/-- Format UW: ACT and OPND are fixed, COND is the condition's code. -/
theorem eq_wordUW_iff {k : BitVec 4} :
    u = microWord a k 0#8 ↔ u &&& 0xF0FF#16 = microWord a 0#4 0#8 ∧ u.extractLsb' 8 4 = k := by
  rw [show 0xF0FF#16 = microWord (BitVec.allOnes 4) 0#4 (BitVec.allOnes 8) from rfl,
    and_microWord_eq_iff, eq_microWord_iff]
  simp only [microCond, BitVec.and_allOnes, BitVec.and_zero, true_and,
    and_left_comm, and_comm]

/-- A word decodes to a given micro-op exactly if it is its word. -/
theorem decode_micro_iff {i : Instr} (hi : i.isHost = false) :
    decode (.micro u) = .ok i ↔ u = encodeMicro i :=
  decodeMicro_eq_ok_iff.trans (and_iff_right hi)

end

/-- Settles O2: each row's pattern says, by its format, that the word is the micro-op's own. -/
theorem microOpsMatchTheirPatterns : Obligations.MicroOpsMatchTheirPatterns := by
  intro u
  refine ⟨(decode_micro_iff rfl).trans eq_word_iff, (decode_micro_iff rfl).trans eq_word_iff,
    (decode_micro_iff rfl).trans eq_word_iff, fun b => (decode_micro_iff rfl).trans eq_wordUB_iff,
    fun d b => (decode_micro_iff rfl).trans eq_wordUD_iff,
    fun i => (decode_micro_iff rfl).trans eq_wordUB_iff,
    (decode_micro_iff rfl).trans eq_word_iff, (decode_micro_iff rfl).trans eq_word_iff,
    (decode_micro_iff rfl).trans eq_word_iff, (decode_micro_iff rfl).trans eq_word_iff,
    (decode_micro_iff rfl).trans eq_word_iff, fun c => ?_, fun i => decodeMicro_isHost⟩
  cases c with
  | sbMsl | addr | btf | txr | rxne => exact (decode_micro_iff rfl).trans eq_wordUW_iff

/-- Of the micro-ops only RECV_BYTE 255 is ill formed (R182, log 16). -/
theorem Instr.wf_of_isHost {i : Instr} (hi : i.isHost = false) (h255 : i ≠ .recvByte 255#8) :
    i.wf = true := by
  cases i with
  | nop | writeReg | readReg => cases hi
  | recvByte j =>
    have hj : j ≠ 255#8 := fun hj => h255 (congrArg Instr.recvByte hj)
    simpa [Instr.wf] using hj
  | _ => rfl

/-- Settles O3: the decoders compute. -/
theorem sampleWordsDecode : Obligations.SampleWordsDecode := by
  unfold Obligations.SampleWordsDecode
  decide

end Sys2Proof
end

section
/-! O36. The generated micro-ops are well formed: no RECV_BYTE has index 255. -/
namespace Sys2Proof.Machine

/-- A read of `n` bytes receives at indices below `n` only. -/
theorem recvByte_mem_readProg {p : Params} {a : HalfWord} {n : Nat} {j : Byte}
    (h : .recvByte j ∈ readProg p a n) : ∃ k < n, j = BitVec.ofNat 8 k := by
  have hf : Instr.recvByte j ∈ (readProg p a n).filter isDataOp := List.mem_filter.2 ⟨h, rfl⟩
  rw [readProg_filter_isDataOp] at hf
  obtain ⟨k, hk, hj⟩ := List.mem_map.1 hf
  exact ⟨k, List.mem_range.1 hk, (Instr.recvByte.inj hj).symm⟩

/-- A microprogram of at most 255 bytes never receives at index 255. -/
theorem IsProg.recvByte_max_not_mem {L : List Instr} {n : Nat} (hL : IsProg L n) (hn : n ≤ 255) :
    .recvByte 255#8 ∉ L := by
  obtain ⟨p, a, bs, rfl, -⟩ | ⟨p, a, rfl⟩ := hL
  · exact recvByte_not_mem_writeProg p a bs _
  · intro h
    obtain ⟨k, hk, hj⟩ := recvByte_mem_readProg h
    have hk' : 255 = k % 2 ^ 8 := congrArg BitVec.toNat hj
    omega

theorem State.recvByte_max_not_mem_prog (s : State) : .recvByte 255#8 ∉ s.prog := by
  by_cases h : s.cmdOp = 1#2 ∨ s.cmdOp = 2#2
  · exact (State.isProg h).recvByte_max_not_mem s.cmdLen_le
  · obtain ⟨h1, h2⟩ := not_or.1 h
    simp [State.prog, h1, h2]

/-- Settles O36: the generator makes micro-ops only, and never the ill-formed one. -/
theorem generatorMakesValidWords : Obligations.GeneratorMakesValidWords := by
  intro s i hi
  have hmicro := s.prog_isHost i hi
  have h255 : i ≠ .recvByte 255#8 := fun h => s.recvByte_max_not_mem_prog (h ▸ hi)
  exact ⟨hmicro, Instr.wf_of_isHost hmicro h255, decodeMicro_encodeMicro hmicro⟩

end Sys2Proof.Machine
end

section
/-! O51, O57. The two pseudo-instructions of R112: the payload goes to DATA, the command write opens
the session of its microprogram, the reads return the result words. -/
namespace Sys2Proof.Machine

/-! ### Issuing a command on an idle engine -/

theorem State.issueTransfer_accepts (s : State) (hb : s.busy = false) {n : Byte} (hn : n ≠ 0#8) (w : Word) :
    s.issueTransfer n w = s.accept w := by
  simp [State.issueTransfer, hb, hn]

/-- Writing a WRITE_REG or READ_REG word to CMD accepts it (R130, R132). -/
theorem hostAccess_write_cmd {s : State} (hb : s.busy = false) (a : HalfWord) {n : Byte}
    (hn : n ≠ 0#8) {op : BitVec 2} (hop : op = 1#2 ∨ op = 2#2) :
    hostAccess (.write 0x000 .w4 (hostWord a n op)) s = .next (s.accept (hostWord a n op)) := by
  change issue (hostWord a n op) s = _
  obtain rfl | rfl := hop
  · simp only [issue, decode, decodeHost_writeReg]
    exact congrArg _ (s.issueTransfer_accepts hb hn _)
  · simp only [issue, decode, decodeHost_readReg]
    exact congrArg _ (s.issueTransfer_accepts hb hn _)

section
variable (s : State) (a : HalfWord) (n : Byte) (op : BitVec 2)

@[simp] theorem State.cmdOp_accept : (s.accept (hostWord a n op)).cmdOp = op :=
  hostOp_hostWord a n op

@[simp] theorem State.cmdLen_accept : (s.accept (hostWord a n op)).cmdLen = n.toNat :=
  congrArg BitVec.toNat (hostLen_hostWord a n op)

@[simp] theorem State.cmdAddr_accept : (s.accept (hostWord a n op)).cmdAddr = a :=
  hostAddr_hostWord a n op

theorem State.prog_accept_read :
    (s.accept (hostWord a n 2#2)).prog = readProg s.cfg a n.toNat := by
  simp [State.prog]

/-- The program of an accepted WRITE_REG whose payload is listed in DATA. -/
theorem State.prog_accept_write {bs : List Byte} (hlen : n.toNat = bs.length)
    (hread : ∀ i (h : i < bs.length), Memory.read s.mem i = some bs[i]) :
    (s.accept (hostWord a n 1#2)).prog = writeProg s.cfg a bs := by
  have hpay : (s.accept (hostWord a n 1#2)).payload = bs := by
    refine List.ext_getElem (by simp [State.payload, hlen]) fun i h1 h2 => ?_
    simp only [State.payload, List.getElem_map, List.getElem_range]
    exact State.dataByte_of_read (s := s.accept (hostWord a n 1#2)) (hread i h2) _
  simp [State.prog, hpay]

end

/-! ### Storing the payload -/

/-- Byte `j` of a packed word. -/
theorem packWord_byte (bs : List Byte) (k : Nat) {j : Nat} (hj : j < 4) :
    (packWord bs k).extractLsb' (8 * j) 8 = bs.getD (4 * k + j) 0#8 := by
  unfold packWord
  match j, hj with
  | 0, _ | 1, _ | 2, _ | 3, _ =>
    simp (disch := decide) only [BitVec.extractLsb'_append_eq_of_le,
      BitVec.extractLsb'_append_eq_of_add_le]
    simp

theorem State.read_writeDataWord_below (s : State) {b i : Nat} (w : Word) (h : i < b) :
    Memory.read (s.writeDataWord b w).mem i = Memory.read s.mem i := by
  rw [State.read_writeDataWord, if_neg (by omega), if_neg (by omega), if_neg (by omega),
    if_neg (by omega)]

theorem runAccesses_append {s t : State} {as : List Access} (h : runAccesses as s = .next t)
    (bs : List Access) : runAccesses (as ++ bs) s = runAccesses bs t := by
  induction as generalizing s with
  | nil => obtain rfl := Host.Outcome.next.inj h; rfl
  | cons a as ih =>
    obtain ⟨r, hr⟩ := hostAccess_answers a s
    simp only [runAccesses, List.cons_append, hr] at h ⊢
    exact ih h

theorem runAccesses_singleton {s t : State} {a : Access} (h : hostAccess a s = .next t) :
    runAccesses [a] s = .next t := by
  simp [runAccesses, h]

/-- The write of payload word `k`. -/
def payloadAccess (bs : List Byte) (k : Nat) : Access :=
  .write (0x100 + 4 * k) .w4 (packWord bs k)

theorem payloadWrites_access (bs : List Byte) : (payloadWrites bs).map hostStmtAccess =
    (List.range ((bs.length + 3) / 4)).map (payloadAccess bs) :=
  List.map_map

/-- Writing `k` payload words leaves the engine idle and stores the first `4k` bytes in DATA, past the
end of the payload 0. -/
theorem runAccesses_payload {s : State} (hb : s.busy = false) (bs : List Byte) {k : Nat}
    (hk : k ≤ 64) : ∃ t, runAccesses ((List.range k).map (payloadAccess bs)) s = .next t ∧
      t.busy = false ∧ t.cfg = s.cfg ∧
      ∀ i, i < 4 * k → Memory.read t.mem i = some (bs.getD i 0#8) := by
  induction k with
  | zero => exact ⟨s, rfl, hb, rfl, fun i hi => absurd hi (Nat.not_lt_zero i)⟩
  | succ k ih =>
    obtain ⟨t, hrun, hbt, hcfg, hread⟩ := ih (by omega)
    refine ⟨t.writeDataWord (4 * k) (packWord bs k), ?_, hbt, hcfg, fun i hi => ?_⟩
    · rw [List.range_succ, List.map_append, runAccesses_append hrun]
      exact runAccesses_singleton (hostAccess_write_data hbt (by omega) _)
    · obtain hlt | hge := Nat.lt_or_ge i (4 * k)
      · rw [t.read_writeDataWord_below _ hlt]
        exact hread i hlt
      · obtain ⟨j, rfl⟩ := Nat.exists_eq_add_of_le hge
        have hj : j < 4 := by omega
        rw [t.read_writeDataWord_byte _ _ hj, packWord_byte bs k hj]

/-- Settles O51: the word stores list the payload in DATA, from which the command write generates
its program. -/
theorem writeRegisterStartsItsProgram : Obligations.WriteRegisterStartsItsProgram := by
  intro s a bs hb hpos hmax
  have hlen : (BitVec.ofNat 8 bs.length).toNat = bs.length :=
    Nat.mod_eq_of_lt (by omega)
  have hn : BitVec.ofNat 8 bs.length ≠ 0#8 := fun h0 => by
    have hzero : (BitVec.ofNat 8 bs.length).toNat = 0 := congrArg BitVec.toNat h0
    omega
  obtain ⟨t, hrun, hbt, hcfg, hread⟩ :=
    runAccesses_payload hb bs (k := (bs.length + 3) / 4) (by omega)
  have hbytes (i : Nat) (h : i < bs.length) : Memory.read t.mem i = some bs[i] := by
    rw [hread i (by omega), List.getD_eq_getElem _ _ h]
  refine ⟨t.accept (hostWord a (BitVec.ofNat 8 bs.length) 1#2), ?_, rfl, rfl, rfl,
    t.cmdAddr_accept _ _ _, (t.cmdLen_accept _ _ _).trans hlen,
    hcfg ▸ t.prog_accept_write a _ hlen hbytes, hbytes⟩
  rw [writeRegisterAccesses, payloadWrites_access, runAccesses_append hrun]
  exact runAccesses_singleton (hostAccess_write_cmd hbt a hn (.inl rfl))

/-! ### Reading the result -/

/-- The poll of BUSY is finished when bit 0 reads 0 (R112). -/
theorem hostStmtFinished_pollBusy (r : Word) :
    hostStmtFinished (.poll 0x004 1#32 0#32) r = true ↔ r.getLsbD 0 = false := by
  change (r &&& 1#32 == 0#32) = true ↔ _
  rw [beq_iff_eq, BitVec.and_one_eq_setWidth_ofBool_getLsbD]
  cases r.getLsbD 0 <;> decide

/-- The result reads of `read_register` (R112). -/
def resultReads (n : Byte) : List HostStmt :=
  (List.range ((n.toNat + 3) / 4)).map fun k => .hr (0x100 + 4 * k)

theorem readRegister_eq (a : HalfWord) (n : Byte) : readRegister a n =
    .hw 0x000 (hostWord a n 2#2) :: .poll 0x004 1#32 0#32 :: resultReads n := rfl

theorem resultReads_length (n : Byte) : (resultReads n).length = (n.toNat + 3) / 4 := by
  simp [resultReads]

theorem resultReads_getElem {n : Byte} {k : Nat} (hk : k < (resultReads n).length) :
    (resultReads n)[k] = .hr (0x100 + 4 * k) := by
  simp [resultReads]

/-- Result read `k` returns DATA word `k`. -/
theorem hostAccess_resultReads {n : Byte} {k : Nat} (hk : k < (resultReads n).length) (s : State) :
    hostAccess (hostStmtAccess (resultReads n)[k]) s =
      .next { s with rdata := s.hostDataWord (4 * k) } := by
  have hk64 : k < 64 := by
    have hlen := n.isLt
    rw [resultReads_length] at hk
    omega
  rw [resultReads_getElem]
  exact hostAccess_read_data s hk64

/-- Settles O57: the command write is accepted, and each result read is a read of its DATA word. -/
theorem readRegisterStartsItsProgram : Obligations.ReadRegisterStartsItsProgram := by
  intro a n hn
  refine ⟨_, _, readRegister_eq a n, resultReads_length n, fun s hb => ?_,
    hostStmtFinished_pollBusy, fun k hk s => ?_⟩
  · exact ⟨s.accept (hostWord a n 2#2), hostAccess_write_cmd hb a hn (.inr rfl), rfl, rfl, rfl,
      s.cmdAddr_accept a n _, s.cmdLen_accept a n _, s.prog_accept_read a n, rfl⟩
  · refine ⟨s.hostDataWord (4 * k), hostAccess_resultReads hk s, fun j hj => ?_⟩
    rw [s.hostDataWord_byte _ hj, State.hostByte, State.dataByte]
    cases Memory.read s.mem (4 * k + j) with
    | none => rfl
    | some b => rfl

end Sys2Proof.Machine
end

section
/-! O32, O33, O34, O35. The microprograms index by index, and their landmarks. -/
namespace Sys2Proof.Machine

/-! ### The write microprogram (R138) -/

theorem writeProg_length (p : Params) (a : HalfWord) (bs : List Byte) :
    (writeProg p a bs).length = 2 * bs.length + 10 := by
  simp only [writeProg, progHead, List.length_append, sendData_length, List.length_cons,
    List.length_nil]
  omega

/-- Behind the first nine micro-ops of a write stand the payload's micro-ops, then the STOP. -/
theorem writeProg_getElem?_add_nine (p : Params) (a : HalfWord) (bs : List Byte) (k : Nat) :
    (writeProg p a bs)[9 + k]? = (bs.flatMap sendData ++ [.stop])[k]? := by
  rw [writeProg, List.append_assoc, List.getElem?_append_right (Nat.le_add_right 9 k)]
  exact congrArg _ (Nat.add_sub_cancel_left 9 k)

/-- Payload byte `i` and its wait stand at `2i` and `2i + 1` of the data phase. -/
theorem sendData_getElem? (bs : List Byte) (tail : List Instr) {i : Nat} (h : i < bs.length) :
    (bs.flatMap sendData ++ tail)[2 * i]? = some (.sendByte true bs[i]) ∧
      (bs.flatMap sendData ++ tail)[2 * i + 1]? = some (.wait .txr) := by
  induction bs generalizing i with
  | nil => exact absurd h (Nat.not_lt_zero i)
  | cons b bs ih =>
    cases i with
    | zero => exact ⟨rfl, rfl⟩
    | succ i => exact ih (Nat.lt_of_succ_lt_succ h)

/-- The STOP of a write is its last micro-op. -/
theorem writeProg_stop (p : Params) (a : HalfWord) (bs : List Byte) :
    (writeProg p a bs)[2 * bs.length + 9]? = some .stop := by
  rw [Nat.add_comm, writeProg_getElem?_add_nine,
    List.getElem?_append_right (Nat.le_of_eq (sendData_length bs)), sendData_length, Nat.sub_self]
  rfl

/-- Settles O32: the first nine micro-ops compute, and behind them stand the payload and the STOP. -/
theorem writeProgramShape : Obligations.WriteProgramShape := by
  intro p a bs
  refine ⟨writeProg_length p a bs, rfl, fun i h => ?_, writeProg_stop p a bs⟩
  obtain ⟨hbyte, hwait⟩ := sendData_getElem? bs [.stop] h
  refine ⟨(writeProg_getElem?_add_nine p a bs _).trans hbyte, ?_⟩
  rw [show 10 + 2 * i = 9 + (2 * i + 1) by omega, writeProg_getElem?_add_nine]
  exact hwait

/-! ### The read microprogram (R140-R143) -/

/-- The micro-ops of the general read before its data phase. -/
def readHead (p : Params) (a : HalfWord) : List Instr :=
  progHead p a ++ [.restart, .wait .sbMsl, .sendAddr (addrRead p), .wait .addr, .clearAddr]

/-- The micro-ops of the general read from its ACK_OFF on. -/
def readLast (n : Nat) : List Instr :=
  [.ackOff, .wait .btf, .recvByte (BitVec.ofNat 8 (n + 1)),
   .stop, .wait .rxne, .recvByte (BitVec.ofNat 8 (n + 2)), .ackOn]

/-- The read microprogram of three bytes or more. -/
theorem readProg_three (p : Params) (a : HalfWord) (n : Nat) :
    readProg p a (n + 3) = readHead p a ++ (plainRecvs (n + 1) ++ readLast n) := by
  simp [readProg, readHead, readLast, readData_plainRecvs, arm]

theorem readProg_length_three (p : Params) (a : HalfWord) (n : Nat) :
    (readProg p a (n + 3)).length = 2 * (n + 3) + 17 := by
  simp only [readProg_three, readHead, readLast, progHead, List.length_append, plainRecvs_length,
    List.length_cons, List.length_nil]
  omega

theorem readProg_getElem?_add_fourteen (p : Params) (a : HalfWord) (n k : Nat) :
    (readProg p a (n + 3))[14 + k]? = (plainRecvs (n + 1) ++ readLast n)[k]? := by
  rw [readProg_three, List.getElem?_append_right (Nat.le_add_right 14 k)]
  exact congrArg _ (Nat.add_sub_cancel_left 14 k)

/-- Plain byte `i` of the general loop: its wait at `2i`, itself at `2i + 1`. -/
theorem plainRecvs_getElem? {n i : Nat} (h : i < n) :
    (plainRecvs n)[2 * i]? = some (.wait .btf) ∧
      (plainRecvs n)[2 * i + 1]? = some (.recvByte (BitVec.ofNat 8 i)) := by
  induction n with
  | zero => exact absurd h (Nat.not_lt_zero i)
  | succ n ih =>
    rw [plainRecvs_succ]
    obtain hlt | rfl := Nat.lt_succ_iff_lt_or_eq.1 h
    · have hlen := plainRecvs_length n
      rw [List.getElem?_append_left (by omega), List.getElem?_append_left (by omega)]
      exact ih hlt
    · rw [List.getElem?_append_right (by rw [plainRecvs_length]),
        List.getElem?_append_right (by rw [plainRecvs_length]; omega), plainRecvs_length,
        Nat.sub_self, Nat.add_sub_cancel_left]
      exact ⟨rfl, rfl⟩

theorem readProg_plain {p : Params} {a : HalfWord} {n i : Nat} (h : i < n + 1) :
    (readProg p a (n + 3))[14 + 2 * i]? = some (.wait .btf) ∧
      (readProg p a (n + 3))[15 + 2 * i]? = some (.recvByte (BitVec.ofNat 8 i)) := by
  obtain ⟨hwait, hrecv⟩ := plainRecvs_getElem? h
  have hlen := plainRecvs_length (n + 1)
  rw [show 15 + 2 * i = 14 + (2 * i + 1) by omega, readProg_getElem?_add_fourteen,
    readProg_getElem?_add_fourteen, List.getElem?_append_left (by omega),
    List.getElem?_append_left (by omega)]
  exact ⟨hwait, hrecv⟩

/-- The last seven micro-ops of the general read. -/
theorem readProg_last (p : Params) (a : HalfWord) (n k : Nat) :
    (readProg p a (n + 3))[2 * (n + 3) + 10 + k]? = (readLast n)[k]? := by
  have hlen := plainRecvs_length (n + 1)
  rw [show 2 * (n + 3) + 10 + k = 14 + (2 * (n + 1) + k) by omega, readProg_getElem?_add_fourteen,
    List.getElem?_append_right (by omega), hlen, Nat.add_sub_cancel_left]

/-- Settles O33: one and two bytes compute; three or more are the head, the plain bytes and the last
seven micro-ops. -/
theorem readProgramShape : Obligations.ReadProgramShape := by
  intro p a
  refine ⟨rfl, rfl, fun n hn => ?_⟩
  obtain ⟨n, rfl⟩ := Nat.exists_eq_add_of_le' hn
  refine ⟨readProg_length_three p a n, ?_, fun i hi => readProg_plain (by omega),
    readProg_last p a n 0, readProg_last p a n 1, readProg_last p a n 2, readProg_last p a n 3,
    readProg_last p a n 4, readProg_last p a n 5, readProg_last p a n 6⟩
  rw [readProg_three]
  rfl

/-! ### Landmarks (R144) -/

/-- Beside its plain bytes the general read holds its head and its last seven micro-ops. -/
theorem readProg_count_three (p : Params) (a : HalfWord) (n : Nat) {i : Instr}
    (hw : i ≠ .wait .btf) (hr : ∀ j, i ≠ .recvByte j) :
    (readProg p a (n + 3)).count i = (readHead p a).count i + (readLast n).count i := by
  have hplain : (plainRecvs (n + 1)).count i = 0 := by
    refine plainRecvs_countP (· == i) (n + 1) false ?_ fun j => ?_
    · simpa using hw.symm
    · simpa using (hr j).symm
  rw [readProg_three, List.count_append, List.count_append, hplain, Nat.zero_add]

/-- Beside its payload a write holds its first nine micro-ops and its STOP. -/
theorem writeProg_count (p : Params) (a : HalfWord) (bs : List Byte) {i : Instr}
    (hw : i ≠ .wait .txr) (hs : ∀ b, i ≠ .sendByte true b) :
    (writeProg p a bs).count i = (progHead p a).count i + [Instr.stop].count i := by
  have hdata : (bs.flatMap sendData).count i = 0 := by
    refine sendData_countP (· == i) bs false ?_ fun b => ?_
    · simpa using hw.symm
    · simpa using (hs b).symm
  rw [writeProg, List.count_append, List.count_append, hdata, Nat.add_zero]

theorem IsProg.count_start {L : List Instr} {n : Nat} (hL : IsProg L n) (hn : 1 ≤ n) :
    L.count .start = 1 := by
  obtain ⟨p, a, bs, rfl, -⟩ | ⟨p, a, rfl⟩ := hL
  · exact writeProg_count p a bs (by simp) (by simp)
  · match n, hn with
    | 1, _ | 2, _ => rfl
    | n + 3, _ => exact readProg_count_three p a n (by simp) (by simp)

theorem writeProg_count_restart (p : Params) (a : HalfWord) (bs : List Byte) :
    (writeProg p a bs).count .restart = 0 :=
  writeProg_count p a bs (by simp) (by simp)

theorem readProg_count_restart (p : Params) (a : HalfWord) {n : Nat} (hn : 1 ≤ n) :
    (readProg p a n).count .restart = 1 := by
  match n, hn with
  | 1, _ | 2, _ => rfl
  | n + 3, _ => exact readProg_count_three p a n (by simp) (by simp)

theorem IsProg.getElem?_zero {L : List Instr} {n : Nat} (hL : IsProg L n) :
    L[0]? = some .start := by
  obtain ⟨p, a, bs, rfl, -⟩ | ⟨p, a, rfl⟩ := hL
  · rfl
  · rfl

theorem writeProg_getLast? (p : Params) (a : HalfWord) (bs : List Byte) :
    (writeProg p a bs).getLast? = some .stop := List.getLast?_concat

theorem readProg_getLast? (p : Params) (a : HalfWord) (n : Nat) :
    (readProg p a n).getLast? = some .ackOn := List.getLast?_concat

/-- The read microprogram at the landmarks of R144. -/
structure ReadLandmarks (p : Params) (L : List Instr) (len d t : Nat) : Prop where
  length : L.length = len
  restart : L[9]? = some .restart
  address : L[11]? = some (.sendAddr (addrRead p))
  cleared : L[d - 1]? = some .clearAddr
  stop : L[t]? = some .stop

theorem readProg_landmarks (p : Params) (a : HalfWord) {n : Nat} (hn : 1 ≤ n) :
    ReadLandmarks p (readProg p a n)
      (if n = 1 then 19 else if n = 2 then 23 else 2 * n + 17) (if n ≤ 2 then 15 else 14)
      (if n = 1 then 17 else if n = 2 then 18 else 2 * n + 13) := by
  match n, hn with
  | 1, _ | 2, _ => exact ⟨rfl, rfl, rfl, rfl, rfl⟩
  | n + 3, _ =>
    rw [if_neg (by omega), if_neg (by omega), if_neg (by omega), if_neg (by omega),
      if_neg (by omega)]
    exact ⟨readProg_length_three p a n, rfl, rfl, rfl, readProg_last p a n 3⟩

section
variable {s : State}

theorem State.prog_of_write (hop : s.cmdOp = 1#2) :
    s.prog = writeProg s.cfg s.cmdAddr s.payload := by
  simp [State.prog, hop]

@[simp] theorem State.payload_length : s.payload.length = s.cmdLen := by
  simp [State.payload]

theorem State.stopIndex_of_write (hop : s.cmdOp = 1#2) : s.stopIndex = 2 * s.cmdLen + 9 :=
  if_pos hop

theorem State.dataStart_of_write (hop : s.cmdOp = 1#2) : s.dataStart = 9 := if_pos hop

theorem State.stopIndex_of_read (hop : s.cmdOp = 2#2) : s.stopIndex =
    if s.cmdLen = 1 then 17 else if s.cmdLen = 2 then 18 else 2 * s.cmdLen + 13 := by
  rw [State.stopIndex, if_neg (by simp [hop])]
  split
  · rw [‹s.cmdLen = 1›]; rfl
  · rw [‹s.cmdLen = 2›]; rfl
  · rename_i h1 h2
    rw [if_neg h1, if_neg h2]

theorem State.dataStart_of_read (hop : s.cmdOp = 2#2) (hn : 1 ≤ s.cmdLen) :
    s.dataStart = if s.cmdLen ≤ 2 then 15 else 14 := by
  rw [State.dataStart, if_neg (by simp [hop])]
  generalize s.cmdLen = n at hn ⊢
  match n, hn with
  | 1, _ | 2, _ => rfl
  | n + 3, _ => exact (if_neg (by omega)).symm

/-- The STOP stands at index t. -/
theorem State.prog_stopIndex (hop : s.cmdOp = 1#2 ∨ s.cmdOp = 2#2) (hn : 1 ≤ s.cmdLen) :
    s.prog[s.stopIndex]? = some .stop := by
  obtain hop | hop := hop
  · rw [State.prog_of_write hop, State.stopIndex_of_write hop, ← State.payload_length]
    exact writeProg_stop _ _ _
  · rw [State.prog_of_read hop, State.stopIndex_of_read hop]
    exact (readProg_landmarks _ _ hn).stop

/-- The last micro-op: the STOP of a write, the ACK_ON of a read. -/
theorem State.prog_getLast? (hop : s.cmdOp = 1#2 ∨ s.cmdOp = 2#2) :
    s.prog.getLast? = some (if s.cmdOp = 1#2 then .stop else .ackOn) := by
  obtain hop | hop := hop
  · rw [State.prog_of_write hop, if_pos hop, writeProg_getLast?]
  · rw [State.prog_of_read hop, if_neg (by simp [hop]), readProg_getLast?]

end

/-- Settles O34: the write's landmarks, the read's, and what both have in common. -/
theorem programLandmarks : Obligations.ProgramLandmarks := by
  intro s hn
  refine ⟨fun hop => ?_, fun hop => ?_, fun hop => ?_⟩
  · rw [State.prog_of_write hop, writeProg_length, State.payload_length]
    exact ⟨rfl, State.dataStart_of_write hop, State.stopIndex_of_write hop,
      writeProg_count_restart _ _ _, writeProg_getLast? _ _ _⟩
  · obtain ⟨hlen, hrestart, haddr, hclear, -⟩ := readProg_landmarks s.cfg s.cmdAddr hn
    rw [State.prog_of_read hop, State.dataStart_of_read hop hn]
    exact ⟨hlen, rfl, State.stopIndex_of_read hop, hrestart, readProg_count_restart _ _ hn, haddr,
      hclear, readProg_getLast? _ _ _⟩
  · have hL := State.isProg hop
    obtain ⟨hmin, hmax⟩ := hL.length hn s.cmdLen_le
    exact ⟨hmin, hmax, hL.getElem?_zero, hL.count_start hn, State.prog_stopIndex hop hn,
      hL.countP_stop hn⟩

/-! ### The acknowledgment controls (R206) -/

/-- Settles O35: a write moves no control; a read's controls are counted and found branch by branch. -/
theorem ackControlPlacement : Obligations.AckControlPlacement := by
  refine ⟨fun p a bs i hi => ?_, fun p a n hn => ?_⟩
  · have hctl := writeProg_movesControls p a bs i hi
    simpa [movesControls, and_assoc] using hctl
  · match n, hn with
    | 1, _ => exact ⟨rfl, rfl, rfl, rfl, rfl, by simp⟩
    | 2, _ => exact ⟨rfl, rfl, rfl, rfl, rfl, fun _ => ⟨rfl, rfl⟩⟩
    | n + 3, _ =>
      rw [if_neg (by omega), if_neg (by omega), if_neg (by omega)]
      exact ⟨readProg_count_three p a n (by simp) (by simp),
        readProg_count_three p a n (by simp) (by simp),
        readProg_count_three p a n (by simp) (by simp),
        readProg_count_three p a n (by simp) (by simp), readProg_last p a n 0, by omega⟩

end Sys2Proof.Machine
end

section
/-! O4, O5, O6, O43, O49. The engine's and the host's step, a running command's step at its micro-op,
and the run of a command whose polls are all answered. -/
namespace Sys2Proof.Machine

/-! ### The step an input calls for -/

section
variable {s : State}

theorem step_of_engineTurn (ht : isEngineTurn s.nextInput) : step s = engineStep s.sample := by
  obtain ⟨hr, hh⟩ := ht
  simp [step, cycle, hr, hh]

theorem step_of_hostAccess {a : Access} (hr : s.nextInput.rst = false)
    (hh : s.nextInput.host = some a) : step s = hostAccess a s.sample := by
  simp [step, cycle, hr, hh]

end

/-- An engine step at a fetched word runs its micro-op and retires (R148, R149). -/
theorem step_of_fetch {s r : State} {u : HalfWord} {i : Instr} (ht : isEngineTurn s.nextInput)
    (hb : s.busy = true) (ha : s.abt = .none) (hu : s.fetch = some u) (hi : decodeMicro u = .ok i)
    (hr : exec i s.sample = .next r) : step s = .next r.retire := by
  have hfetch : s.sample.fetch = some u := hu
  rw [step_of_engineTurn ht]
  simp [engineStep, runMicroOp, decode, hb, ha, hfetch, hi, hr]

/-- Settles O4: the micro-op answers a next state, which is retired. -/
theorem stepRunsTheFetchedMicroOp : Obligations.StepRunsTheFetchedMicroOp := by
  intro s u i ht hb ha hu hi
  obtain ⟨r, hr⟩ := exec_answers i s.sample
  rw [step_of_fetch ht hb ha hu hi hr]
  simp only [hr]

/-- Settles O5: the access is aligned and in the window, at CMD. -/
theorem stepRunsTheIssuedCommand : Obligations.StepRunsTheIssuedCommand := by
  intro s w i hr hh hi
  rw [step_of_hostAccess hr hh]
  change issue w s.sample = _
  simp only [issue, hi]

/-- Settles O6: an idle engine presents no action, which is what the sampled port shows. -/
theorem idleStepChangesNothing : Obligations.IdleStepChangesNothing := by
  intro s ht hb
  rw [step_of_engineTurn ht, engineStep, if_pos (s.sample_busy.trans hb)]
  rfl

/-! ### A running command's step -/

/-- An engine step at micro-op `i` runs it and retires. -/
theorem StandsAt.steps {i : Instr} {s : State} (hs : StandsAt i s) (ht : isEngineTurn s.nextInput) :
    ∃ r, step s = .next r.retire ∧ MicroEffect i s.sample r := by
  have hi : i.isHost = false := s.prog_isHost i (List.mem_of_getElem? hs.entry)
  have hfetch : s.fetch = some (encodeMicro i) := by rw [State.fetch_eq, hs.entry]; rfl
  obtain ⟨r, hr⟩ := exec_answers i s.sample
  exact ⟨r, step_of_fetch ht hs.busy hs.abt hfetch (decodeMicro_encodeMicro hi) hr,
    exec_microEffect hi hr⟩

/-- A running command that meets the invariant stands at some micro-op. -/
theorem Inv.standsAt {s : State} (h : Inv s) (hb : s.busy = true) (ha : s.abt = .none) :
    ∃ i, StandsAt i s :=
  ⟨_, h, hb, ha, List.getElem?_eq_getElem (h.running hb ha)⟩

/-- A micro-op that meets no false answer advances: it is no WAIT, or its poll is answered. -/
theorem MicroEffect.advances {i : Instr} {s r : State} (hm : MicroEffect i s r)
    (hc : ∀ c, i = .wait c → s.cond c = true) : Advances i s r := by
  cases hm with
  | advanced hr => exact hr
  | unbounded hi hno | counted hi hno | timedOut hi hno => simp [hc _ hi] at hno

section
variable {i : Instr} {s r : State} (hr : Advances i s r) (hs : StandsAt i s)
include hr hs

/-- Behind the last micro-op the command completes (R149). -/
theorem Advances.retire_of_last (hlast : r.upc.toNat = s.prog.length) : r.retire = r.complete :=
  if_pos ⟨hr.busy.trans hs.busy, hr.abt.trans hs.abt, by rw [hr.prog_eq hs.entry, hlast]⟩

/-- Before the last micro-op the session goes on. -/
theorem Advances.retire_of_left (hleft : r.upc.toNat < s.prog.length) : r.retire = r :=
  (hr.inv hs hleft).retire_eq

end

/-! ### The last micro-op (R149) -/

/-- At the end of its program stand the STOP of a write, the ACK_ON of a read. -/
theorem StandsAt.eq_last {i : Instr} {s : State} (hs : StandsAt i s)
    (hlast : s.upc.toNat + 1 = s.prog.length) : i = if s.cmdOp = 1#2 then .stop else .ackOn := by
  have hget := State.prog_getLast? (hs.inv.command hs.busy).1
  rw [List.getLast?_eq_getElem?, ← hlast, Nat.add_sub_cancel, hs.entry] at hget
  exact Option.some.inj hget

/-- The last micro-op of a write is its STOP and changes `stop_issued` alone. -/
theorem Advances.of_stop {s r : State} (hr : Advances .stop s r) :
    r.idx = s.idx ∧ r.mem = s.mem ∧ r.pos = s.pos ∧ r.stopIssued = true ∧ r.ackEn = s.ackEn := by
  have hrec : r.recorder = ⟨s.ackEn, s.pos, true, s.records⟩ := hr.recorder
  injection hrec with hack hpos hstop
  exact ⟨hr.idx, congrArg Prod.fst hr.taken, hpos, hstop, hack⟩

/-- The last micro-op of a read is its ACK_ON and changes `ack_en` alone. -/
theorem Advances.of_ackOn {s r : State} (hr : Advances .ackOn s r) :
    r.idx = s.idx ∧ r.mem = s.mem ∧ r.pos = s.pos ∧ r.stopIssued = s.stopIssued ∧
      r.ackEn = true := by
  have hrec : r.recorder = ⟨true, s.pos, s.stopIssued, s.records⟩ := hr.recorder
  injection hrec with hack hpos hstop
  exact ⟨hr.idx, congrArg Prod.fst hr.taken, hpos, hstop, hack⟩

/-- Settles O43: the last micro-op is no WAIT, so its step advances and completes; every other step
leaves the session running. -/
theorem completesAtTheLastMicroOp : Obligations.CompletesAtTheLastMicroOp := by
  intro s t h hb ha ht hst
  obtain ⟨i, hs⟩ := h.standsAt hb ha
  obtain ⟨r, hr, hm⟩ := hs.steps ht
  obtain rfl := Host.Outcome.next.inj (hst.symm.trans hr)
  have hends (hend : r.retire.busy = false) : s.upc.toNat + 1 = s.prog.length := by
    obtain ⟨hadv, hlast, -⟩ := hm.completes hs.sample hend
    exact (hadv.upc_toNat hs.sample).symm.trans hlast
  refine ⟨⟨hends, fun hlast => ?_⟩, fun hend => ?_⟩
  · have hadv : Advances i s.sample r := hm.advances fun c hc => by
      have hi := hs.eq_last hlast
      split_ifs at hi <;> simp [hc] at hi
    rw [hadv.retire_of_last hs.sample ((hadv.upc_toNat hs.sample).trans hlast)]
    rfl
  · obtain ⟨hadv, hlast, hret⟩ := hm.completes hs.sample hend
    have hi := hs.eq_last (hends hend)
    have hidx : r.idx.toNat = s.cmdLen := hadv.idx_of_last hs.sample hlast
    rw [hret]
    refine ⟨hi ▸ hs.entry, rfl, rfl, rfl, hadv.cmd, ?_⟩
    obtain hop | hop := (h.command hb).1
    · rw [if_pos hop] at hi
      obtain ⟨hsame, hmem, hpos, hstop, hack⟩ := (hi ▸ hadv).of_stop
      exact ⟨hsame, hmem, hadv.timeout, hpos, fun _ => ⟨hstop, hack⟩, by simp [hop], hidx⟩
    · rw [if_neg (by simp [hop])] at hi
      obtain ⟨hsame, hmem, hpos, hstop, hack⟩ := (hi ▸ hadv).of_ackOn
      exact ⟨hsame, hmem, hadv.timeout, hpos, by simp [hop], fun _ => ⟨hstop, hack⟩, hidx⟩

/-! ### A command whose polls are all answered (R26, D33) -/

theorem isReadyTurn.engineTurn {j : Input} (hj : isReadyTurn j) : isEngineTurn j :=
  ⟨hj.1, hj.2.1⟩

/-- Every poll in a ready turn is answered `true`. -/
theorem isReadyTurn.level {j : Input} (hj : isReadyTurn j) (c : Cond) :
    Conds.level j.conds c = true := by
  rw [hj.2.2]
  cases c <;> rfl

/-- A ready turn puts the micro-op behind the micro-PC. -/
theorem StandsAt.steps_ready {i : Instr} {s : State} (hs : StandsAt i s)
    (hj : isReadyTurn s.nextInput) :
    ∃ r, step s = .next r.retire ∧ Advances i s.sample r := by
  obtain ⟨r, hr, hm⟩ := hs.steps hj.engineTurn
  exact ⟨r, hr, hm.advances fun c _ => hj.level c⟩

/-- The head of a script of ready turns is the next input. -/
theorem State.nextInput_ready {s : State} {n : Nat} (hlen : n + 1 ≤ s.script.length)
    (hready : ∀ j ∈ s.script.take (n + 1), isReadyTurn j) : isReadyTurn s.nextInput := by
  unfold State.nextInput
  split
  next hnil => simp [hnil] at hlen
  next j rest hcons => exact hready j (by simp [hcons])

/-- What a completed command leaves (R149). -/
structure Completed (s t : State) : Prop where
  busy : t.busy = false
  done : t.done = true
  timeout : t.timeout = s.timeout
  cmd : t.cmd = s.cmd
  idx : t.idx.toNat = s.cmdLen
  actions : t.actions = s.prog.filterMap portAction

/-- A session that goes on behind one micro-op. -/
structure Continues (s r : State) : Prop where
  inv : Inv r
  busy : r.busy = true
  abt : r.abt = .none
  upc : r.upc.toNat = s.upc.toNat + 1
  script : r.script = s.script.tail
  prog : r.prog = s.prog
  cmd : r.cmd = s.cmd
  timeout : r.timeout = s.timeout

theorem Continues.completed {s r t : State} (hr : Continues s r) (ht : Completed r t) :
    Completed s t where
  busy := ht.busy
  done := ht.done
  timeout := ht.timeout.trans hr.timeout
  cmd := ht.cmd.trans hr.cmd
  idx := ht.idx.trans (congrArg (fun w => (hostLen w).toNat) hr.cmd)
  actions := hr.prog ▸ ht.actions

section
variable {i : Instr} {s : State} (hs : StandsAt i s) (hj : isReadyTurn s.nextInput)
include hs hj

/-- A ready turn at the last micro-op completes the command. -/
theorem StandsAt.step_completed (hlast : s.upc.toNat + 1 = s.prog.length) :
    ∃ t, step s = .next t ∧ Completed s t := by
  obtain ⟨r, hst, hr⟩ := hs.steps_ready hj
  have hupc : r.upc.toNat = s.prog.length := (hr.upc_toNat hs.sample).trans hlast
  rw [hr.retire_of_last hs.sample hupc] at hst
  exact ⟨_, hst, rfl, rfl, hr.timeout, hr.cmd, hr.idx_of_last hs.sample hupc,
    hr.actions_of_last hs.sample hupc⟩

/-- A ready turn before the last micro-op goes on to the next one. -/
theorem StandsAt.step_continues (hleft : s.upc.toNat + 1 < s.prog.length) :
    ∃ r, step s = .next r ∧ Continues s r := by
  obtain ⟨r, hst, hr⟩ := hs.steps_ready hj
  have hupc : r.upc.toNat = s.upc.toNat + 1 := hr.upc_toNat hs.sample
  have hlt : r.upc.toNat < s.sample.prog.length := hupc.trans_lt hleft
  rw [hr.retire_of_left hs.sample hlt] at hst
  obtain ⟨-, -, hscript, -⟩ := stepKeepsConfiguration s r hst
  exact ⟨r, hst, hr.inv hs.sample hlt, hr.busy.trans hs.busy, hr.abt.trans hs.abt, hupc, hscript,
    hr.prog_eq hs.sample.entry, hr.cmd, hr.timeout⟩

end

theorem runSteps_succ {n : Nat} {s t : State} (h : step s = .next t) :
    runSteps (n + 1) s = runSteps n t := by
  rw [runSteps, h]

/-- `n + 1` ready turns complete a command with `n + 1` micro-ops left. -/
theorem runSteps_ready_completed (n : Nat) {s : State} (h : Inv s) (hb : s.busy = true)
    (ha : s.abt = .none) (hn : s.prog.length = s.upc.toNat + (n + 1))
    (hlen : n + 1 ≤ s.script.length) (hready : ∀ j ∈ s.script.take (n + 1), isReadyTurn j) :
    ∃ t, runSteps (n + 1) s = .next t ∧ Completed s t := by
  induction n generalizing s with
  | zero =>
    obtain ⟨i, hs⟩ := h.standsAt hb ha
    obtain ⟨t, hst, ht⟩ := hs.step_completed (State.nextInput_ready hlen hready) hn.symm
    exact ⟨t, runSteps_succ hst, ht⟩
  | succ n ih =>
    obtain ⟨i, hs⟩ := h.standsAt hb ha
    obtain ⟨r, hst, hr⟩ := hs.step_continues (State.nextInput_ready hlen hready) (by omega)
    have hrest : ∀ j ∈ r.script.take (n + 1), isReadyTurn j := fun j hj => by
      rw [hr.script, ← List.drop_one] at hj
      exact hready j (List.mem_of_mem_drop (i := 1) (List.drop_take ▸ hj))
    obtain ⟨t, hrun, ht⟩ := ih hr.inv hr.busy hr.abt (by rw [hr.prog, hr.upc]; omega)
      (by rw [hr.script, List.length_tail]; omega) hrest
    exact ⟨t, (runSteps_succ hst).trans hrun, hr.completed ht⟩

/-- Settles O49: by induction on the micro-ops left, each of which a ready turn puts behind. -/
theorem answeredCommandCompletes : Obligations.AnsweredCommandCompletes := by
  intro s h hb ha hlen hready
  have hlt := h.running hb ha
  obtain ⟨n, hn⟩ : ∃ n, s.prog.length - s.upc.toNat = n + 1 :=
    ⟨s.prog.length - s.upc.toNat - 1, by omega⟩
  rw [hn] at hlen hready ⊢
  obtain ⟨t, hrun, hbusy, hdone, htimeout, hcmd, hidx, hactions⟩ :=
    runSteps_ready_completed n h hb ha (by omega) hlen hready
  exact ⟨t, hrun, hbusy, hdone, htimeout, hcmd, hidx, hactions⟩

end Sys2Proof.Machine
end

section
/-! O9, O10, O11, O12. A write of a command word to CMD, by its cases. -/
namespace Sys2Proof.Machine

/-! ### A command on a busy and on an idle engine -/

section
variable {s : State} {i : Instr}

theorem exec_writeReg (a : HalfWord) (n : Byte) :
    exec (.writeReg a n) s = .next (s.issueTransfer n (hostWord a n 1#2)) := rfl

theorem exec_readReg (a : HalfWord) (n : Byte) :
    exec (.readReg a n) s = .next (s.issueTransfer n (hostWord a n 2#2)) := rfl

/-- Busy comes before every other check (R130, R230). -/
theorem exec_of_busy (hi : i.isHost = true) (hb : s.busy = true) :
    exec i s = .next (s.hostError 4#4) := by
  cases i with
  | nop | writeReg | readReg => exact congrArg _ (if_pos hb)
  | _ => cases hi

theorem exec_nop_of_idle (hb : s.busy = false) : exec .nop s = .next s := by
  simp [exec, execNop, hb]

/-- LEN = 0 is refused (R131). -/
theorem State.issueTransfer_refuses (hb : s.busy = false) (w : Word) :
    s.issueTransfer 0#8 w = s.cmdError 3#4 := by
  simp [State.issueTransfer, hb]

/-- A transfer on an idle engine is refused for LEN = 0 or accepted (R131, R132). -/
theorem State.issueTransfer_of_idle (hb : s.busy = false) (n : Byte) (w : Word) :
    s.issueTransfer n w = if n = 0#8 then s.cmdError 3#4 else s.accept w := by
  split_ifs with hn
  · rw [hn, State.issueTransfer_refuses hb]
  · exact s.issueTransfer_accepts hb hn w

/-- Everything a command can do on an idle engine. -/
theorem exec_of_idle (hi : i.isHost = true) (hb : s.busy = false) :
    exec i s = .next s ∨ exec i s = .next (s.cmdError 3#4) ∨
      exec i s = .next (s.accept (encodeHost i)) := by
  cases i with
  | nop => exact .inl (exec_nop_of_idle hb)
  | writeReg a n | readReg a n =>
    by_cases hn : n = 0#8
    · subst hn
      exact .inr (.inl (congrArg _ (State.issueTransfer_refuses hb _)))
    · exact .inr (.inr (congrArg _ (s.issueTransfer_accepts hb hn _)))
  | _ => cases hi

end

/-- A command word with RSV and OP as one byte. -/
theorem hostWord_eq (a : HalfWord) (n : Byte) (op : BitVec 2) :
    hostWord a n op = a ++ n ++ (0#6 ++ op) := BitVec.append_assoc

/-- Settles O9: on an idle engine a NOP does nothing, and a transfer is accepted. -/
theorem commandsOnIdleEngine : Obligations.CommandsOnIdleEngine := by
  intro s a n hb
  refine ⟨exec_nop_of_idle hb, fun hn => ⟨?_, ?_⟩⟩
  · rw [exec_writeReg, s.issueTransfer_accepts hb hn, hostWord_eq]
    rfl
  · rw [exec_readReg, s.issueTransfer_accepts hb hn, hostWord_eq]
    rfl

/-- Settles O10: busy is checked first, LEN on an idle engine only. -/
theorem commandsTurnedAway : Obligations.CommandsTurnedAway := by
  intro s a n
  refine ⟨fun hb => ⟨exec_of_busy rfl hb, exec_of_busy rfl hb, exec_of_busy rfl hb⟩,
    fun hb => ⟨?_, ?_⟩⟩
  · exact congrArg _ (State.issueTransfer_refuses hb _)
  · exact congrArg _ (State.issueTransfer_refuses hb _)

/-- Settles O12: a command refuses, is accepted, or (a NOP) does nothing. -/
theorem commandFrame : Obligations.CommandFrame := by
  intro i s t hi h
  cases hb : s.busy with
  | true =>
    obtain rfl := Host.Outcome.next.inj ((exec_of_busy hi hb).symm.trans h)
    simp [hb]
  | false =>
    obtain hx | hx | hx := exec_of_idle hi hb
    all_goals
      obtain rfl := Host.Outcome.next.inj (hx.symm.trans h)
      simp [hb]

/-! ### Any word -/

section
variable {s : State} {w : Word}

theorem issue_of_ok {i : Instr} (h : decodeHost w = .ok i) : issue w s = exec i s := by
  simp only [issue, decode, h]

theorem issue_of_error {e : DecodeError} (h : decodeHost w = .error e) : issue w s =
    .next (if s.busy then s.hostError 4#4 else s.cmdError (cmdCause e)) := by
  simp only [issue, decode, h]

/-- A busy engine refuses every word (R130). -/
theorem issue_of_busy (hb : s.busy = true) : issue w s = .next (s.hostError 4#4) := by
  cases h : decodeHost w with
  | ok i => rw [issue_of_ok h, exec_of_busy (decodeHost_isHost h) hb]
  | error e => rw [issue_of_error h, if_pos hb]

/-- A word with RSV = 0 and OP = 01 or 10 asks for the transfer of LEN bytes (R106). -/
theorem issue_transfer (h3 : hostOp w ≠ 3#2) (hrsv : hostRsv w = 0#6) (h0 : hostOp w ≠ 0#2) :
    issue w s = .next (s.issueTransfer (hostLen w) w) := by
  have hw := hostWord_of_hostRsv hrsv
  by_cases h1 : hostOp w = 1#2
  · have hdec : decodeHost w = .ok (.writeReg (hostAddr w) (hostLen w)) := by
      simp [decodeHost, h1, hrsv]
    rw [h1] at hw
    rw [issue_of_ok hdec, exec_writeReg, hw]
  · have h2 : hostOp w = 2#2 := eq_two_of_ne h3 h0 h1
    have hdec : decodeHost w = .ok (.readReg (hostAddr w) (hostLen w)) := by
      simp [decodeHost, h2, hrsv]
    rw [h2] at hw
    rw [issue_of_ok hdec, exec_readReg, hw]

/-- The cases of a CMD write, in the order of R230. -/
theorem issue_eq : issue w s = .next (
    if s.busy = true then s.hostError 4#4
    else if hostOp w = 3#2 then s.cmdError 1#4
    else if hostRsv w ≠ 0#6 then s.cmdError 2#4
    else if hostOp w = 0#2 then s
    else if hostLen w = 0#8 then s.cmdError 3#4
    else s.accept w) := by
  split_ifs with hb h3 hrsv h0 hlen
  · exact issue_of_busy hb
  · have hdec : decodeHost w = .error .rsvOp := if_pos h3
    rw [issue_of_error hdec, if_neg hb]
    rfl
  · have hdec : decodeHost w = .error .rsvBits := by simp [decodeHost, h3, hrsv]
    rw [issue_of_error hdec, if_neg hb]
    rfl
  · have hdec : decodeHost w = .ok .nop := by simp [decodeHost, h0, not_not.1 hrsv]
    rw [issue_of_ok hdec, exec_nop_of_idle (by simpa using hb)]
  · rw [issue_transfer h3 (not_not.1 hrsv) h0, State.issueTransfer_of_idle (by simpa using hb),
      if_pos hlen]
  · rw [issue_transfer h3 (not_not.1 hrsv) h0, State.issueTransfer_of_idle (by simpa using hb),
      if_neg hlen]

end

/-- Settles O11: an access to CMD issues its word. -/
theorem commandIssueDecides : Obligations.CommandIssueDecides := fun _ _ => issue_eq

end Sys2Proof.Machine
end

section
/-! O37, O38, O39. The microprogram of a running command, and the session's phase. -/
namespace Sys2Proof.Machine

/-! ### The microprogram does not change (R146) -/

theorem HostEffect.prog_eq {s t : State} (h : HostEffect s t) (hb : s.busy = true) :
    t.prog = s.prog := by
  cases h with
  | accepted a n op hop hn idle => simp [hb] at idle
  | stored j w hj idle => simp [hb] at idle
  | _ => rfl

theorem State.abortStep_prog (s : State) : s.abortStep.prog = s.prog := by
  unfold State.abortStep
  split
  all_goals rfl

theorem MicroEffect.prog_eq {i : Instr} {s r : State} (hm : MicroEffect i s r)
    (hi : s.prog[s.upc.toNat]? = some i) : r.prog = s.prog := by
  cases hm with
  | advanced hr => exact hr.prog_eq hi
  | unbounded | counted | timedOut => rfl

theorem State.retire_prog (r : State) : r.retire.prog = r.prog := by
  obtain hc | hc := r.retire_eq
  · rw [hc]; rfl
  · rw [hc]

/-- Settles O37: what the generator reads is kept by host accesses while busy, by the abort tail, and
by every micro-op. -/
theorem runningProgramIsFrozen : Obligations.RunningProgramIsFrozen := by
  intro s t hb hr hst
  cases step_effect hst with
  | reset hrst => simp [hr] at hrst
  | host _ _ he => exact he.prog_eq hb
  | idle _ _ hidle => simp [hb] at hidle
  | abort => exact s.sample.abortStep_prog
  | micro _ _ _ _ hu hi hm =>
    rw [State.retire_prog]
    exact hm.prog_eq (State.prog_of_fetch (s := s.sample) hu hi)

/-! ### The phase (R147) -/

section
variable {s : State}

theorem State.phase_of_idle (hb : s.busy = false) : s.phase = .idle := if_pos hb

theorem State.phase_of_abort (hb : s.busy = true) (ha : s.abt ≠ .none) : s.phase = .stopPending := by
  simp [State.phase, hb, ha]

theorem State.phase_of_running (hb : s.busy = true) (ha : s.abt = .none) : s.phase =
    if s.stopIndex ≤ s.upc.toNat then .stopPending
    else if s.upc.toNat < 5 then .addressing
    else if s.upc.toNat < 9 then .regSel
    else if s.cmdOp = 1#2 then .data
    else if s.upc.toNat < s.dataStart then .addressing
    else .data := by
  simp [State.phase, hb, ha]

theorem State.phase_eq_idle_iff : s.phase = .idle ↔ s.busy = false := by
  refine ⟨fun h => ?_, State.phase_of_idle⟩
  unfold State.phase at h
  split_ifs at h with hb
  exact hb

theorem State.phase_eq_stopPending_iff (hb : s.busy = true) (ha : s.abt = .none) :
    s.phase = .stopPending ↔ s.stopIndex ≤ s.upc.toNat := by
  rw [State.phase_of_running hb ha]
  split_ifs with h
  · exact iff_of_true rfl h
  all_goals exact iff_of_false nofun h

end

/-- Settles O38: the rule's table with the landmarks of each command. -/
theorem phaseTable : Obligations.PhaseTable := by
  refine ⟨fun s hb => ?_, fun s hb ha => ?_, fun s hb ha hop => ?_, fun s d t hb ha hop hn hd ht => ?_⟩
  · rw [State.phase_of_idle hb]; rfl
  · rw [State.phase_of_abort hb ha]; rfl
  · rw [State.phase_of_running hb ha, State.stopIndex_of_write hop, if_pos hop]
    simp only [apply_ite phaseCode]
    rfl
  · rw [State.phase_of_running hb ha, State.stopIndex_of_read hop, State.dataStart_of_read hop hn,
      ← hd, ← ht, if_neg (c := s.cmdOp = 1#2) (by simp [hop])]
    simp only [apply_ite phaseCode]
    rfl

/-! ### The STOP of a program -/

/-- The only entry that meets `p` is among the first `m` exactly if its index is below `m`. -/
theorem countP_take_pos_iff {α : Type} {p : α → Bool} {L : List α} {k : Nat} {x : α}
    (hk : L[k]? = some x) (hx : p x = true) (hone : L.countP p = 1) (m : Nat) :
    0 < (L.take m).countP p ↔ k < m := by
  refine ⟨fun hpos => ?_, fun hlt => ?_⟩
  · by_contra hle
    have hdrop : 0 < (L.drop m).countP p := by
      refine List.countP_pos_iff.2 ⟨x, List.mem_of_getElem? (i := k - m) ?_, hx⟩
      rw [List.getElem?_drop, Nat.add_sub_cancel' (Nat.not_lt.1 hle), hk]
    rw [← List.take_append_drop m L, List.countP_append] at hone
    omega
  · refine List.countP_pos_iff.2 ⟨x, List.mem_of_getElem? (i := k) ?_, hx⟩
    rw [List.getElem?_take_of_lt hlt, hk]

section
variable {s : State} (h : Inv s) (hb : s.busy = true) (ha : s.abt = .none)
include h hb

/-- The microprogram's only STOP is among the first `m` micro-ops exactly if index t is. -/
theorem Inv.countP_stop_pos_iff (m : Nat) :
    0 < (s.prog.take m).countP (· == .stop) ↔ s.stopIndex < m := by
  obtain ⟨hop, -, hn⟩ := h.command hb
  exact countP_take_pos_iff (State.prog_stopIndex hop hn) rfl ((State.isProg hop).countP_stop hn) m

/-- The STOP is the micro-op at `upc` exactly at index t. -/
theorem Inv.stop_next_iff : s.prog[s.upc.toNat]? = some .stop ↔ s.stopIndex = s.upc.toNat := by
  obtain ⟨hop, -, hn⟩ := h.command hb
  refine ⟨fun hstop => ?_, fun heq => heq ▸ State.prog_stopIndex hop hn⟩
  have hsame (m : Nat) : s.upc.toNat < m ↔ s.stopIndex < m :=
    (countP_take_pos_iff hstop rfl ((State.isProg hop).countP_stop hn) m).symm.trans
      (h.countP_stop_pos_iff hb m)
  have hle := hsame (s.upc.toNat + 1)
  have hge := hsame (s.stopIndex + 1)
  omega


include ha

/-- The STOP was emitted exactly if it is behind the micro-PC. -/
theorem Inv.stopIssued_iff : s.stopIssued = true ↔ s.stopIndex < s.upc.toNat := by
  have hcount := h.oneStop
  rw [h.progress hb ha, countP_isStop_filterMap_portAction] at hcount
  rw [← h.countP_stop_pos_iff hb, ← State.past, hcount]
  cases s.stopIssued with
  | true | false => decide

end

/-- Settles O39: the STOP stands at index t alone, so it is next or behind the micro-PC exactly from
there on. -/
theorem phaseFollowsTheStop : Obligations.PhaseFollowsTheStop := by
  intro s h
  refine ⟨State.phase_eq_idle_iff, fun hb ha => ?_⟩
  rw [State.phase_eq_stopPending_iff hb ha, h.stopIssued_iff hb ha, h.stop_next_iff hb]
  omega

end Sys2Proof.Machine
end

section
/-! O53, O54. Under EA-CONFORM a wire is its bus events with the answers they get; the two microprograms
fix both. -/
namespace Sys2Proof.Machine

/-! ### A wire from its bus events and answers -/

/-- The device transmits. -/
def BusEvent.isReceived : BusEvent → Bool
  | .r _ => true
  | _ => false

/-- The wire of the given bus events, where the device ACKs every byte and the master answers received
bytes by the given list. -/
def answered : List BusEvent → List Bool → List WireEvent
  | [], _ => []
  | .s :: es, as => .s :: answered es as
  | .sr :: es, as => .sr :: answered es as
  | .p :: es, as => .p :: answered es as
  | .w b :: es, as => .w b true :: answered es as
  | .r b :: es, a :: as => .r b a :: answered es as
  | .r _ :: _, [] => []

/-- A wire on which the device ACKs every byte is known from its bus events and the master's answers. -/
theorem eq_answered {wire : List WireEvent}
    (h : ∀ a, a ∈ wire.filterMap WireEvent.deviceAck → a = true) :
    wire = answered (wire.map WireEvent.bus) (masterAcks wire) := by
  induction wire with
  | nil => rfl
  | cons e es ih =>
    cases e with
    | w b ack =>
      obtain ⟨rfl, hes⟩ := List.forall_mem_cons.1 h
      exact congrArg _ (ih hes)
    | s | sr | p | r => exact congrArg _ (ih h)

theorem wire_ext {v w : List WireEvent}
    (hv : ∀ a, a ∈ v.filterMap WireEvent.deviceAck → a = true)
    (hw : ∀ a, a ∈ w.filterMap WireEvent.deviceAck → a = true)
    (hbus : v.map WireEvent.bus = w.map WireEvent.bus) (hacks : masterAcks v = masterAcks w) :
    v = w := by
  rw [eq_answered hv, eq_answered hw, hbus, hacks]

/-- The master answers each received byte once. -/
theorem masterAcks_length (wire : List WireEvent) :
    (masterAcks wire).length = (wire.map WireEvent.bus).countP BusEvent.isReceived := by
  induction wire with
  | nil => rfl
  | cons e es ih =>
    cases e with
    | r b ack =>
      rw [List.map_cons, List.countP_cons_of_pos rfl, ← ih]
      rfl
    | s | sr | p | w =>
      rw [List.map_cons, List.countP_cons_of_neg Bool.false_ne_true, ← ih]
      rfl

theorem countP_isReceived_r (bs : List Byte) :
    (bs.map BusEvent.r).countP BusEvent.isReceived = bs.length := by
  rw [List.countP_map, List.countP_eq_length]
  exact fun _ _ => rfl

theorem countP_isReceived_w (bs : List Byte) :
    (bs.map BusEvent.w).countP BusEvent.isReceived = 0 := by
  rw [List.countP_map, List.countP_eq_zero]
  exact fun _ _ => Bool.false_ne_true

/-! ### The two transactions of R151 -/

/-- Received bytes, byte `i` with the answer `f i`. -/
def receivedEvents (ds : List Byte) (f : Nat → Bool) : List WireEvent := ds.mapIdx fun i d => .r d (f i)

theorem receivedEvents_cons (d : Byte) (ds : List Byte) (f : Nat → Bool) :
    receivedEvents (d :: ds) f = .r d (f 0) :: receivedEvents ds fun i => f (i + 1) :=
  List.mapIdx_cons

theorem receivedEvents_bus (ds : List Byte) (f : Nat → Bool) :
    (receivedEvents ds f).map WireEvent.bus = ds.map .r := by
  induction ds generalizing f with
  | nil => rfl
  | cons d ds ih => rw [receivedEvents_cons, List.map_cons, ih]; rfl

theorem receivedEvents_deviceAcks (ds : List Byte) (f : Nat → Bool) :
    (receivedEvents ds f).filterMap WireEvent.deviceAck = [] := by
  induction ds generalizing f with
  | nil => rfl
  | cons d ds ih => rw [receivedEvents_cons]; exact ih _

theorem receivedEvents_masterAcks (ds : List Byte) (f : Nat → Bool) :
    masterAcks (receivedEvents ds f) = (List.range ds.length).map f := by
  induction ds generalizing f with
  | nil => rfl
  | cons d ds ih =>
    rw [receivedEvents_cons, List.length_cons, List.range_succ_eq_map, List.map_cons, List.map_map]
    exact congrArg _ (ih _)

/-- On the bus: START, the write address, the register address. -/
def writeBusHead (p : Params) (a : HalfWord) : List BusEvent :=
  [.s, .w (addrWrite p), .w (regHi a), .w (regLo a)]

/-- On the bus: the same, RESTART, the read address. -/
def readBusHead (p : Params) (a : HalfWord) : List BusEvent :=
  [.s, .w (addrWrite p), .w (regHi a), .w (regLo a), .sr, .w (addrRead p)]

section
variable (p : Params) (a : HalfWord) (bs : List Byte)

theorem readWire_eq : readWire p a bs = answered (readBusHead p a) [] ++
    receivedEvents bs (fun i => decide (i + 1 < bs.length)) ++ [WireEvent.p] := rfl

theorem writeWire_bus : (writeWire p a bs).map WireEvent.bus =
    writeBusHead p a ++ bs.map BusEvent.w ++ [BusEvent.p] := by
  simp [writeWire, writeBusHead, WireEvent.bus]

theorem writeWire_deviceAcks :
    ∀ ack, ack ∈ (writeWire p a bs).filterMap WireEvent.deviceAck → ack = true := by
  simp [writeWire, WireEvent.deviceAck]

theorem writeWire_masterAcks : masterAcks (writeWire p a bs) = [] := by
  rw [← List.length_eq_zero_iff, masterAcks_length, writeWire_bus, List.countP_append,
    List.countP_append, countP_isReceived_w]
  rfl

theorem readWire_bus : (readWire p a bs).map WireEvent.bus =
    readBusHead p a ++ bs.map BusEvent.r ++ [BusEvent.p] := by
  rw [readWire_eq, List.map_append, List.map_append, receivedEvents_bus]
  rfl

theorem readWire_deviceAcks :
    ∀ ack, ack ∈ (readWire p a bs).filterMap WireEvent.deviceAck → ack = true := by
  rw [readWire_eq, List.filterMap_append, List.filterMap_append, receivedEvents_deviceAcks]
  simp [answered, readBusHead, WireEvent.deviceAck]

theorem readWire_masterAcks : masterAcks (readWire p a bs) =
    (List.range bs.length).map fun i => decide (i + 1 < bs.length) := by
  rw [← receivedEvents_masterAcks, readWire_eq, masterAcks, List.filterMap_append,
    List.filterMap_append]
  exact List.append_nil _

end

/-- The transaction of READ_REG with its last byte, the NACKed one, apart. -/
theorem readWire_concat (p : Params) (a : HalfWord) (ds : List Byte) (last : Byte) :
    readWire p a (ds ++ [last]) =
      [WireEvent.s, .w (addrWrite p) true, .w (regHi a) true, .w (regLo a) true, .sr,
        .w (addrRead p) true] ++ ds.map (WireEvent.r · true) ++ [WireEvent.r last false, .p] := by
  have hds : ds.mapIdx (fun i d => WireEvent.r d (decide (i + 1 < ds.length + 1))) =
      ds.map (.r · true) := by
    refine List.ext_getElem (by simp) fun i _ h2 => ?_
    have hi : i < ds.length := by simpa using h2
    simp [hi]
  rw [readWire, List.mapIdx_concat, List.length_append, List.length_singleton, hds]
  simp

/-! ### What the microprograms carry out -/

theorem any_isStop_of_mem {L : List Instr} (h : .stop ∈ L) :
    (L.filterMap portAction).any isStop = true :=
  List.any_eq_true.2 ⟨⟨0x3#4, 0#8⟩, List.mem_filterMap.2 ⟨.stop, h, rfl⟩, rfl⟩

/-- The payload's actions and the STOP's. -/
theorem sendData_actions (bs : List Byte) :
    (bs.flatMap sendData ++ [Instr.stop]).filterMap portAction =
      bs.map (fun b => ⟨0x5#4, b⟩) ++ [⟨0x3#4, 0#8⟩] := by
  induction bs with
  | nil => rfl
  | cons b bs ih => exact congrArg _ ih

theorem carriedOut_payload (bs xs : List Byte) :
    carriedOut (bs.map (fun b => ⟨0x5#4, b⟩) ++ [⟨0x3#4, 0#8⟩]) xs = bs.map .w := by
  induction bs with
  | nil => rfl
  | cons b bs ih => exact congrArg _ ih

section
variable (p : Params) (a : HalfWord)

theorem writeProg_actions (bs : List Byte) : (writeProg p a bs).filterMap portAction =
    (progHead p a).filterMap portAction ++
      (bs.map (fun b => ⟨0x5#4, b⟩) ++ [⟨0x3#4, 0#8⟩]) := by
  rw [writeProg, List.append_assoc, List.filterMap_append, sendData_actions]

/-- The first nine micro-ops put the START, the address and the register address on the bus. -/
theorem carriedOut_progHead (acts : List Action) (xs : List Byte) :
    carriedOut ((progHead p a).filterMap portAction ++ acts) xs =
      writeBusHead p a ++ carriedOut acts xs := rfl

theorem carriedOut_writeProg (bs xs : List Byte) :
    carriedOut ((writeProg p a bs).filterMap portAction) xs =
      writeBusHead p a ++ bs.map BusEvent.w := by
  rw [writeProg_actions, carriedOut_progHead, carriedOut_payload]

/-- A write never addresses the device for a read: the direction bit of AW is 0 (R185). -/
theorem writeProg_any_isReadAddress (bs : List Byte) :
    ((writeProg p a bs).filterMap portAction).any isReadAddress = false := by
  rw [writeProg_actions]
  simp [progHead, portAction, isReadAddress, addrWrite, List.filterMap_cons]

end

/-- START, RESTART and the sending of a byte. -/
def isSending (a : Action) : Bool :=
  a.act.toNat == 1 || a.act.toNat == 2 || a.act.toNat == 4 || a.act.toNat == 5

theorem isRecv_eq (a : Action) : isRecv a = decide (a.act.toNat = 6) := by
  simp [isRecv, BitVec.toNat_eq, Bool.beq_eq_decide_eq]

/-- Actions that send nothing put the bytes handed over on the bus, one at each RECV_BYTE. -/
theorem carriedOut_of_not_sending {acts : List Action} (h : ∀ a ∈ acts, isSending a = false)
    (bs : List Byte) : carriedOut acts bs = (bs.take (acts.countP isRecv)).map .r := by
  induction acts generalizing bs with
  | nil => rfl
  | cons a acts ih =>
    obtain ⟨ha, hacts⟩ := List.forall_mem_cons.1 h
    rw [carriedOut.eq_def, List.countP_cons, isRecv_eq]
    dsimp only
    split
    case h_1 hact | h_2 hact | h_3 hact | h_4 hact => simp [isSending, hact] at ha
    case h_5 hact =>
      rw [hact]
      cases bs with
      | nil => simpa using ih hacts []
      | cons b bs => exact congrArg _ (ih hacts bs)
    case h_6 h1 h2 h4 h5 h6 =>
      rw [decide_eq_false h6]
      exact ih hacts bs

/-- The micro-ops of a read behind its second addressing byte. -/
def readTail (n : Nat) : List Instr := arm n ++ [Instr.wait .addr, .clearAddr] ++ readData n ++ [Instr.ackOn]

theorem readProg_eq_readTail (p : Params) (a : HalfWord) (n : Nat) : readProg p a n =
    progHead p a ++ ([Instr.restart, .wait .sbMsl, .sendAddr (addrRead p)] ++ readTail n) := by
  simp [readProg, readTail]

theorem plainRecvs_actions (n : Nat) :
    (plainRecvs n).filterMap portAction = List.replicate n ⟨0x6#4, 0#8⟩ := by
  induction n with
  | zero => rfl
  | succ n ih => rw [plainRecvs_succ, List.filterMap_append, ih, List.replicate_succ']; rfl

theorem readTail_actions_three (n : Nat) : (readTail (n + 3)).filterMap portAction =
    [⟨0x7#4, 0#8⟩] ++ List.replicate (n + 1) ⟨0x6#4, 0#8⟩ ++
      [⟨0x9#4, 0#8⟩, ⟨0x6#4, 0#8⟩, ⟨0x3#4, 0#8⟩, ⟨0x6#4, 0#8⟩, ⟨0x8#4, 0#8⟩] := by
  simp only [readTail, readData_plainRecvs, List.filterMap_append, plainRecvs_actions]
  simp [arm, portAction, List.filterMap_cons]

/-- Behind the second addressing byte a read of `n` bytes takes `n` bytes and sends nothing. -/
theorem readTail_receives {n : Nat} (hn : 1 ≤ n) :
    (∀ a ∈ (readTail n).filterMap portAction, isSending a = false) ∧
      ((readTail n).filterMap portAction).countP isRecv = n := by
  match n, hn with
  | 1, _ | 2, _ => decide
  | n + 3, _ =>
    rw [readTail_actions_three]
    refine ⟨?_, ?_⟩
    · simp only [List.forall_mem_append, List.mem_replicate]
      refine ⟨⟨by decide, ?_⟩, by decide⟩
      rintro a ⟨-, rfl⟩
      rfl
    · rw [List.countP_append, List.countP_append, List.countP_replicate]
      change 0 + (n + 1) + 2 = n + 3
      omega

section
variable (p : Params) (a : HalfWord)

/-- A read puts its two addressings on the bus, then the bytes it takes. -/
theorem carriedOut_readProg {n : Nat} (hn : 1 ≤ n) {xs : List Byte} (hlen : xs.length = n) :
    carriedOut ((readProg p a n).filterMap portAction) xs =
      readBusHead p a ++ xs.map BusEvent.r := by
  obtain ⟨hsend, hcount⟩ := readTail_receives hn
  have htail := carriedOut_of_not_sending hsend xs
  rw [hcount, ← hlen, List.take_length] at htail
  rw [readProg_eq_readTail, List.filterMap_append, carriedOut_progHead, ← htail]
  rw [hlen]
  rfl

/-! ### The wire of a microprogram -/

variable {p a} {n : Nat} {bytes : List Byte} {wire : List WireEvent}

/-- A conforming wire of a write microprogram is the transaction of WRITE_REG. -/
theorem EaConform.eq_writeWire {bs : List Byte}
    (h : EaConform n ((writeProg p a bs).filterMap portAction) bytes wire) :
    wire = writeWire p a bs := by
  obtain ⟨late, hlate, hbus⟩ := h.carried
  obtain rfl : late = [] := by
    by_contra hne
    have hread := hlate hne
    rw [writeProg_any_isReadAddress] at hread
    exact Bool.false_ne_true hread
  have hstop := any_isStop_of_mem (List.mem_of_getElem? (writeProg_stop p a bs))
  rw [carriedOut_writeProg, if_pos hstop, List.map_nil,
    List.append_nil, ← writeWire_bus] at hbus
  have hacks : masterAcks wire = [] := by
    rw [← List.length_eq_zero_iff, masterAcks_length, hbus, ← masterAcks_length,
      writeWire_masterAcks, List.length_nil]
  exact wire_ext h.deviceAcks (writeWire_deviceAcks p a bs) hbus
    (hacks.trans (writeWire_masterAcks p a bs).symm)

/-- A conforming wire of a read microprogram is the transaction of READ_REG: the NACK of the last
byte taken ends the device's sending, so nothing came late. -/
theorem EaConform.eq_readWire (hn : 1 ≤ n) (hlen : bytes.length = n)
    (h : EaConform n ((readProg p a n).filterMap portAction) bytes wire) :
    wire = readWire p a bytes := by
  have hstop := any_isStop_of_mem (List.mem_of_getElem? (readProg_landmarks p a hn).stop)
  obtain ⟨late, -, hbus⟩ := h.carried
  have hacks := h.readAcks (controlTrace_readProg p a n hn ▸ List.prefix_rfl)
  have hnack : (masterAcks wire)[n - 1]? = some false := by
    have hlast : ((masterAcks wire).take bytes.length)[n - 1]? = some false := by
      rw [hacks, hlen, List.getElem?_map, List.getElem?_range (by omega), Option.map_some,
        Nat.sub_add_cancel hn, decide_eq_false (Nat.lt_irrefl n)]
    rwa [List.getElem?_take_of_lt (by omega)] at hlast
  have hcount : (masterAcks wire).length = n := by
    rw [h.nackEnds _ hnack, Nat.sub_add_cancel hn]
  rw [carriedOut_readProg p a hn hlen, if_pos hstop] at hbus
  obtain rfl : late = [] := by
    rw [masterAcks_length, hbus, List.countP_append, List.countP_append, List.countP_append,
      countP_isReceived_r, countP_isReceived_r, hlen] at hcount
    change 0 + n + late.length + 0 = n at hcount
    exact List.length_eq_zero_iff.1 (by omega)
  rw [List.map_nil, List.append_nil, ← readWire_bus] at hbus
  rw [hlen, ← hcount, List.take_length, hcount, ← hlen, ← readWire_masterAcks p a] at hacks
  exact wire_ext h.deviceAcks (readWire_deviceAcks p a bytes) hbus hacks

end

/-- Settles O53: the microprograms' actions and the premise fix the wire. -/
theorem programsMakeTheWireTransactions : Obligations.ProgramsMakeTheWireTransactions := by
  refine ⟨fun p a bs wire h => h.eq_writeWire, fun p a ds last wire _ h => ?_⟩
  rw [h.eq_readWire (Nat.le_add_left 1 _) List.length_append]
  exact readWire_concat p a ds last

end Sys2Proof.Machine
end

section
/-! O54. The wire of a session of the machine that completes: its actions and the bytes it took are
those of its microprogram. -/
namespace Sys2Proof.Machine

section
variable {s t : State} (h : Inv s) (hb : s.busy = true) (ha : s.abt = .none)
  (hr : s.nextInput.rst = false) (hst : step s = .next t) (hend : t.busy = false)
include h hb ha hr hst hend

/-- A session that completes has emitted its program's actions. -/
theorem actions_of_completion : t.actions = s.prog.filterMap portAction := by
  obtain ⟨i, r, hs, hadv, hlast, rfl⟩ := (step_effect hst).completes h hb ha hr hend
  exact hadv.actions_of_last hs hlast

/-- A read that completes has stored each of its LEN bytes (R182). -/
theorem stored_of_completion (hop : s.cmdOp = 2#2) : t.received.length = s.cmdLen ∧
    ∀ j, j < s.cmdLen → Memory.read t.mem j = t.received[j]? := by
  obtain ⟨i, r, hs, hadv, hlast, rfl⟩ := (step_effect hst).completes h hb ha hr hend
  obtain ⟨hlen, hread⟩ := hadv.stored hs hop
  have hreceived : r.received.length = s.cmdLen := hlen.trans (hadv.idx_of_last hs hlast)
  exact ⟨hreceived, fun j hj => hread j (hreceived.symm ▸ hj)⟩

variable {wire : List WireEvent} (hw : EaConform s.cmdLen t.actions t.received wire)
include hw

/-- The wire of a completed WRITE_REG is its transaction. -/
theorem wire_of_completed_write (hop : s.cmdOp = 1#2) :
    wire = writeWire s.cfg s.cmdAddr s.payload := by
  rw [actions_of_completion h hb ha hr hst hend, State.prog_of_write hop] at hw
  exact hw.eq_writeWire

/-- The wire of a completed READ_REG is its transaction, with the bytes it took. -/
theorem wire_of_completed_read (hop : s.cmdOp = 2#2) :
    wire = readWire s.cfg s.cmdAddr t.received := by
  obtain ⟨hlen, -⟩ := stored_of_completion h hb ha hr hst hend hop
  obtain ⟨-, -, hn⟩ := h.command hb
  rw [actions_of_completion h hb ha hr hst hend, State.prog_of_read hop] at hw
  exact hw.eq_readWire hn hlen

end

/-- Settles O54: what a completed read took is what DATA holds. -/
theorem completedSessionOnTheWire : Obligations.CompletedSessionOnTheWire := by
  intro s t wire h hb ha hr hst hend hw
  refine ⟨wire_of_completed_write h hb ha hr hst hend hw, fun hop => ?_⟩
  obtain ⟨hlen, hread⟩ := stored_of_completion h hb ha hr hst hend hop
  rw [wire_of_completed_read h hb ha hr hst hend hw hop]
  congr 1
  refine List.ext_getElem (by simp [hlen]) fun j hj _ => ?_
  have hbyte := (hread j (hlen ▸ hj)).trans (List.getElem?_eq_getElem hj)
  rw [List.getElem_map, List.getElem_range, State.dataByte_of_read hbyte]

end Sys2Proof.Machine
end

section
/-! O55, O59. The reference test device (D30) takes a write transaction, and takes a read transaction
exactly if it reads what the device holds. -/
namespace Sys2Proof.Machine

/-! ### The device's registers -/

/-- The register at `q`. -/
def RefDevice.reg (d : RefDevice) (q : HalfWord) : Byte := d.regs[q.toNat]'q.isLt

/-- One data byte of a write: stored at the pointer, which advances. -/
def RefDevice.store (d : RefDevice) (b : Byte) : RefDevice :=
  { d with regs := d.regs.set d.ptr.toNat b d.ptr.isLt, ptr := d.ptr + 1#16 }

/-- The device with its pointer set, in phase `ph`. -/
def RefDevice.pointedAt (d : RefDevice) (q : HalfWord) (ph : DevPhase) : RefDevice :=
  { d with ptr := q, phase := ph }

section
variable (d : RefDevice)

theorem RefDevice.reg_store_same (b : Byte) : (d.store b).reg d.ptr = b :=
  Vector.getElem_set_self d.ptr.isLt

theorem RefDevice.reg_store_ne (b : Byte) {q : HalfWord} (h : q ≠ d.ptr) :
    (d.store b).reg q = d.reg q :=
  Vector.getElem_set_ne d.ptr.isLt q.isLt fun he => h (BitVec.eq_of_toNat_eq he.symm)

/-- Registers beyond the stored bytes are kept. -/
theorem RefDevice.reg_foldl_store_frame (bs : List Byte) {q : HalfWord}
    (h : ∀ i, i < bs.length → q ≠ d.ptr + BitVec.ofNat 16 i) :
    (bs.foldl RefDevice.store d).reg q = d.reg q := by
  induction bs generalizing d with
  | nil => rfl
  | cons b bs ih =>
    rw [List.foldl_cons, ih (d.store b) fun i hi => ?_]
    · exact d.reg_store_ne b (by simpa using h 0 (Nat.succ_pos _))
    · have hnext := h (i + 1) (Nat.succ_lt_succ hi)
      rwa [BitVec.ofNat_add, BitVec.add_comm (BitVec.ofNat 16 i), ← BitVec.add_assoc] at hnext

/-- The stored bytes stand from the pointer on, modulo 2^16. -/
theorem RefDevice.reg_foldl_store {bs : List Byte} (hlen : bs.length ≤ 2 ^ 16) {i : Nat}
    (hi : i < bs.length) :
    (bs.foldl RefDevice.store d).reg (d.ptr + BitVec.ofNat 16 i) = bs[i] := by
  induction bs generalizing d i with
  | nil => exact absurd hi (Nat.not_lt_zero i)
  | cons b bs ih =>
    rw [List.length_cons] at hlen
    cases i with
    | zero =>
      rw [List.foldl_cons, BitVec.add_zero, RefDevice.reg_foldl_store_frame _ _ fun j hj => ?_]
      · exact d.reg_store_same b
      · change d.ptr ≠ d.ptr + 1#16 + BitVec.ofNat 16 j
        generalize d.ptr = q
        bv_omega
    | succ i =>
      have hnext := ih (d.store b) (Nat.le_of_succ_le hlen) (Nat.lt_of_succ_lt_succ hi)
      rwa [show (d.store b).ptr = d.ptr + 1#16 from rfl, BitVec.add_assoc,
        BitVec.add_comm 1#16, ← BitVec.ofNat_add] at hnext

end

/-! ### Runs -/

theorem regHi_append_regLo (a : HalfWord) : regHi a ++ regLo a = a :=
  (BitVec.extractLsb'_append_extractLsb'_eq_extractLsb' rfl).trans BitVec.extractLsb'_eq_self

/-- The direction bits of the two addressing bytes (R185). -/
theorem addrWrite_getLsbD_zero (p : Params) : (addrWrite p).getLsbD 0 = false := by
  simp [addrWrite]

theorem addrRead_getLsbD_zero (p : Params) : (addrRead p).getLsbD 0 = true := by
  simp [addrRead]

section
variable (d : RefDevice) (p : Params) (a : HalfWord)

theorem refDeviceRun_writeHead (es : List WireEvent) :
    refDeviceRun d (answered (writeBusHead p a) [] ++ es) =
      refDeviceRun (d.pointedAt a .writing) es := by
  simp only [refDeviceRun, refDeviceStep, answered, writeBusHead, List.cons_append, List.nil_append,
    addrWrite_getLsbD_zero, Bool.false_eq_true, if_false, regHi_append_regLo]
  rfl

theorem refDeviceRun_readHead (es : List WireEvent) :
    refDeviceRun d (answered (readBusHead p a) [] ++ es) =
      refDeviceRun (d.pointedAt a .reading) es := by
  have hsplit : answered (readBusHead p a) [] ++ es =
      answered (writeBusHead p a) [] ++ (.sr :: .w (addrRead p) true :: es) := rfl
  rw [hsplit, refDeviceRun_writeHead]
  simp only [refDeviceRun, refDeviceStep, addrRead_getLsbD_zero]
  rfl

variable {d}

theorem refDeviceRun_stores (hd : d.phase = .writing) (bs : List Byte) (es : List WireEvent) :
    refDeviceRun d (bs.map (.w · true) ++ es) = refDeviceRun (bs.foldl RefDevice.store d) es := by
  induction bs generalizing d with
  | nil => rfl
  | cons b bs ih =>
    have hstep : refDeviceStep d (.w b true) = some (d.store b) := by
      simp [refDeviceStep, hd, RefDevice.store]
    rw [List.map_cons, List.cons_append, refDeviceRun, hstep]
    exact ih hd

/-- The device is read from its pointer on, and then takes the STOP condition. -/
theorem refDeviceRun_reads (hd : d.phase = .reading) (ds : List Byte) (f : Nat → Bool) :
    (refDeviceRun d (receivedEvents ds f ++ [.p])).isSome = true ↔
      ∀ (i : Nat) (h : i < ds.length), d.reg (d.ptr + BitVec.ofNat 16 i) = ds[i] := by
  induction ds generalizing d f with
  | nil => exact ⟨fun _ i hi => absurd hi (Nat.not_lt_zero i), fun _ => rfl⟩
  | cons b ds ih =>
    have hnext := ih (d := { d with ptr := d.ptr + 1#16 }) hd fun i => f (i + 1)
    have hreg (i : Nat) : d.reg (d.ptr + BitVec.ofNat 16 (i + 1)) =
        RefDevice.reg { d with ptr := d.ptr + 1#16 } (d.ptr + 1#16 + BitVec.ofNat 16 i) := by
      rw [BitVec.ofNat_add, BitVec.add_comm (BitVec.ofNat 16 i), ← BitVec.add_assoc]
      rfl
    have hstep : refDeviceStep d (.r b (f 0)) =
        if d.reg d.ptr = b then some { d with ptr := d.ptr + 1#16 } else none := by
      simp only [refDeviceStep, hd, RefDevice.reg]
    rw [receivedEvents_cons, List.cons_append, refDeviceRun, hstep]
    split_ifs with hb
    · refine hnext.trans ⟨fun h i hi => ?_, fun h i hi => ?_⟩
      · cases i with
        | zero => rw [BitVec.add_zero]; exact hb
        | succ i => rw [hreg]; exact h i (Nat.lt_of_succ_lt_succ hi)
      · exact (hreg i).symm.trans (h (i + 1) (Nat.succ_lt_succ hi))
    · refine iff_of_false Bool.false_ne_true fun h => hb ?_
      rw [← BitVec.add_zero d.ptr]
      exact h 0 (Nat.succ_pos _)

end

/-- The device after a write transaction. -/
def RefDevice.written (d : RefDevice) (a : HalfWord) (bs : List Byte) : RefDevice :=
  { bs.foldl RefDevice.store (d.pointedAt a .writing) with phase := .idle }

/-- The device takes every write transaction. -/
theorem refDeviceRun_writeWire (d : RefDevice) (p : Params) (a : HalfWord) (bs : List Byte) :
    refDeviceRun d (writeWire p a bs) = some (d.written a bs) := by
  have hhead := refDeviceRun_writeHead d p a (bs.map (.w · true) ++ [.p])
  rw [refDeviceRun_stores rfl] at hhead
  rw [writeWire, List.append_assoc]
  exact hhead

theorem RefDevice.reg_written (d : RefDevice) (a : HalfWord) {bs : List Byte}
    (hlen : bs.length ≤ 255) {i : Nat} (hi : i < bs.length) :
    (d.written a bs).reg (a + BitVec.ofNat 16 i) = bs[i] :=
  (d.pointedAt a .writing).reg_foldl_store (by omega) hi

/-- The device takes a read transaction exactly if it holds the bytes read. -/
theorem refDeviceRun_readWire (e : RefDevice) (p : Params) (a : HalfWord) (ds : List Byte) :
    (refDeviceRun e (readWire p a ds)).isSome = true ↔
      ∀ (i : Nat) (h : i < ds.length), e.reg (a + BitVec.ofNat 16 i) = ds[i] := by
  rw [readWire_eq, List.append_assoc, refDeviceRun_readHead]
  exact refDeviceRun_reads rfl ds _

/-- Right after a write of `bs`, a read of as many bytes reads `bs` (R152). -/
theorem refDeviceRun_readWire_written (d : RefDevice) (p : Params) (a : HalfWord)
    {bs ds : List Byte} (hbs : bs.length ≤ 255) (hlen : ds.length = bs.length) :
    (refDeviceRun (d.written a bs) (readWire p a ds)).isSome = true ↔ ds = bs := by
  rw [refDeviceRun_readWire]
  refine ⟨fun h => List.ext_getElem hlen fun i h1 h2 => ?_, ?_⟩
  · rw [← h i h1, d.reg_written a hbs h2]
  · rintro rfl i hi
    exact d.reg_written a hbs hi

/-- Settles O55: the write stores its payload, and the read is taken if it reads the registers. -/
theorem referenceDeviceRoundTrip : Obligations.ReferenceDeviceRoundTrip := by
  intro d p a bs hbs
  exact ⟨d.written a bs, refDeviceRun_writeWire d p a bs, fun i hi => d.reg_written a hbs hi,
    fun ds hlen => refDeviceRun_readWire_written d p a hbs hlen⟩

/-- Settles O59: both wires are their commands' transactions, so the read took what the write sent,
and DATA holds what the read took. -/
theorem writeThenReadRoundTrip : Obligations.WriteThenReadRoundTrip := by
  intro s t s' t' wire wire' d e e' h hb ha hop hr hst hend hw h' hb' ha' hop' hr' hst' hend' hw'
    haddr hlen hrun hrun' i hi
  obtain rfl := wire_of_completed_write h hb ha hr hst hend hw hop
  obtain rfl := wire_of_completed_read h' hb' ha' hr' hst' hend' hw' hop'
  obtain ⟨hreceived, hread⟩ := stored_of_completion h' hb' ha' hr' hst' hend' hop'
  obtain rfl : d.written s.cmdAddr s.payload = e :=
    Option.some.inj ((refDeviceRun_writeWire d s.cfg s.cmdAddr s.payload).symm.trans hrun)
  have hsame : t'.received = s.payload := by
    refine (refDeviceRun_readWire_written d s'.cfg s.cmdAddr
      (State.payload_length.trans_le s.cmdLen_le) ?_).1 ?_
    · rw [hreceived, hlen, State.payload_length]
    · rw [haddr] at hrun'
      rw [hrun', Option.isSome_some]
  rw [hread i (hlen ▸ hi), hsame]

end Sys2Proof.Machine
end

section
/-! O13, O18. The bus conditions by what they do, and every micro-op by what it leaves unchanged. -/
namespace Sys2Proof.Machine

/-- Settles O13: each is a chain of named updates behind its action. -/
theorem busConditionResults : Obligations.BusConditionResults :=
  fun _ => ⟨rfl, rfl, rfl⟩

/-- A poll changes at most the port, the micro-PC, the poll count and what an abort sets (R184, R225). -/
theorem execWait_changes {c : Cond} {s t : State} (h : execWait c s = .next t) :
    ∃ upc polls cause lastto abt, t = { s with
      port := ⟨0#4, 0#8⟩, upc := upc, polls := polls, cause := cause, lastto := lastto,
      abt := abt } := by
  obtain rfl := Host.Outcome.next.inj h
  split
  · exact ⟨_, _, _, _, _, rfl⟩
  · split
    · exact ⟨_, _, _, _, _, rfl⟩
    · split
      · exact ⟨_, _, _, _, _, rfl⟩
      · exact ⟨_, _, _, _, _, rfl⟩

/-- Settles O18: WAIT changes its own fields only, SEND_BYTE branches on D, and the others are a chain
of named updates, of which RECV_BYTE's store keeps DATA at every other index. -/
theorem microOpFrame : Obligations.MicroOpFrame := by
  intro i s t hi h
  cases i with
  | nop | writeReg | readReg => cases hi
  | wait c =>
    obtain ⟨upc, polls, cause, lastto, abt, rfl⟩ := execWait_changes h
    simp
  | sendByte d b =>
    obtain rfl := Host.Outcome.next.inj h
    cases d with
    | true | false => simp
  | recvByte j =>
    obtain rfl := Host.Outcome.next.inj h
    have hmem : ∀ a, a ≠ j.toNat →
        Memory.read (Memory.write s.mem j.toNat s.rx) a = Memory.read s.mem a :=
      fun _ ha => Memory.read_write_ne s.mem s.rx ha
    simpa using hmem
  | start | restart | stop | sendAddr | clearAddr | ackOn | ackOff | posOn | posOff =>
    obtain rfl := Host.Outcome.next.inj h
    simp

end Sys2Proof.Machine
end

section
/-! O14, O15, O17, O31. The byte transfers and the poll by what they change, and the operand bytes. -/
namespace Sys2Proof.Machine

/-! ### SEND_ADDR, SEND_BYTE, CLEAR_ADDR, RECV_BYTE -/

/-- Settles O14: each is a chain of named updates behind its action, and D picks the chain of SEND_BYTE. -/
theorem sendResults : Obligations.SendResults :=
  fun _ _ => ⟨rfl, rfl, rfl, rfl⟩

/-- Settles O15: DATA after the store is one `Memory.write`, at an index below 256. -/
theorem receiveResult : Obligations.ReceiveResult := by
  intro s i
  refine ⟨Memory.write s.mem i.toNat s.rx, ?result, ?stored, ?kept, ?canonical⟩
  case result =>
    -- On a state given by its fields the chain of updates computes.
    cases s
    rfl
  case stored => exact Memory.read_write_same s.mem i.toNat s.rx
  case kept => exact fun _ hj => Memory.read_write_ne s.mem s.rx hj
  case canonical => exact fun hwf => Memory.wf_write s.rx hwf i.isLt

/-! ### WAIT -/

/-- Settles O17: the four ways a poll can go. -/
theorem waitResult : Obligations.WaitResult := by
  intro s c
  refine ⟨fun hc => ?answered, fun hc hw => ?unbounded, fun k hc hw hk => ?counted,
    fun k hc hw hk => ?timedOut⟩
  case answered => exact execWait_answered hc
  case unbounded => exact execWait_unbounded hc hw
  case counted => exact execWait_counted hc hw hk
  case timedOut =>
    subst hk
    exact execWait_timedOut hc hw

/-! ### Operand bytes -/

section
variable (p : Params)

/-- AW is the address with the direction bit 0 behind it, and a 7-bit address loses nothing (R185). -/
theorem addrWrite_toNat : (addrWrite p).toNat = 2 * p.devAddr7.toNat := by
  have hlt : p.devAddr7.toNat < 128 := p.devAddr7.isLt
  simp only [addrWrite, BitVec.toNat_shiftLeft, BitVec.toNat_setWidth, Nat.shiftLeft_eq]
  omega

theorem addrWrite_and_one : addrWrite p &&& 1#8 = 0#8 := by
  rw [BitVec.and_one_eq_setWidth_ofBool_getLsbD, addrWrite_getLsbD_zero]
  rfl

/-- Masking the direction bit changes nothing in AW. -/
theorem addrWrite_and_mask : addrWrite p &&& 0xFE#8 = addrWrite p :=
  calc addrWrite p &&& 0xFE#8
    _ = (addrWrite p &&& 0xFE#8) ||| (addrWrite p &&& 1#8) := by rw [addrWrite_and_one, BitVec.or_zero]
    _ = addrWrite p &&& (0xFE#8 ||| 1#8) := BitVec.and_or_distrib_left.symm
    _ = addrWrite p := BitVec.and_allOnes

theorem addrRead_eq_add_one : addrRead p = addrWrite p + 1#8 :=
  (BitVec.add_eq_or_of_and_eq_zero _ _ (addrWrite_and_one p)).symm

end

/-- Settles O31: bit 0 of AW is 0, so setting it adds 1; the two bytes of an address are its halves. -/
theorem operandBytes : Obligations.OperandBytes :=
  ⟨fun p => ⟨addrWrite_toNat p, (addrWrite_and_mask p).symm, rfl, addrRead_eq_add_one p⟩,
    fun a => ⟨rfl, rfl, regHi_append_regLo a⟩⟩

end Sys2Proof.Machine
end

section
/-! O16, O45. The acknowledgment controls by what they do, and the byte-boundary records they give. -/
namespace Sys2Proof.Machine

/-- Settles O16: each is a chain of named updates behind its action. -/
theorem ackControlResults : Obligations.AckControlResults :=
  fun _ => ⟨rfl, rfl, rfl, rfl⟩

/-! ### The records of a microprogram (R207, R208) -/

/-- Micro-ops that take no byte leave no record. -/
theorem filterMap_portAction_keeps_records (r : Recorder) {L : List Instr}
    (h : ∀ j, .recvByte j ∉ L) :
    ((L.filterMap portAction).foldl recorderStep r).records = r.records := by
  induction L generalizing r with
  | nil => rfl
  | cons i L ih =>
    have hL : ∀ j, .recvByte j ∉ L := fun j hj => h j (List.mem_cons_of_mem _ hj)
    cases i with
    | recvByte j => exact absurd List.mem_cons_self (h j)
    | _ => exact ih _ hL

/-- Bytes taken one after the other are recorded with the same controls. -/
theorem foldl_recorderStep_recvs (r : Recorder) (n : Nat) :
    (List.replicate n ⟨0x6#4, 0#8⟩).foldl recorderStep r =
      { r with records := r.records ++ List.replicate n ⟨r.ackEn, r.pos, r.stopIssued⟩ } := by
  induction n generalizing r with
  | zero => simp
  | succ n ih =>
    rw [List.replicate_succ, List.foldl_cons, ih]
    simp [recorderStep, List.replicate_succ]

theorem recorderOf_writeProg_records (p : Params) (a : HalfWord) (bs : List Byte) :
    (recorderOf ((writeProg p a bs).filterMap portAction)).records = [] :=
  filterMap_portAction_keeps_records Recorder.init (recvByte_not_mem_writeProg p a bs)

/-- One and two bytes compute; of three or more, the plain bytes are taken with the controls of the
session's start. -/
theorem recorderOf_readProg_records (p : Params) (a : HalfWord) (n : Nat) :
    (recorderOf ((readProg p a n).filterMap portAction)).records = expectedRecords n := by
  match n with
  | 0 | 1 | 2 => rfl
  | n + 3 =>
    rw [readProg_eq_readTail, List.filterMap_append, List.filterMap_append, readTail_actions_three,
      recorderOf, List.foldl_append, List.foldl_append, List.foldl_append, List.foldl_append,
      foldl_recorderStep_recvs]
    exact List.append_assoc _ [_] [_]

/-- Settles O45: the records are the recorder's, and the actions those of the whole microprogram. -/
theorem completedReadRecords : Obligations.CompletedReadRecords := by
  intro s t h hb ha hr hst hend
  have hrecords : t.records = (recorderOf (s.prog.filterMap portAction)).records := by
    rw [← actions_of_completion h hb ha hr hst hend, (stepKeepsInvariant s t h hst).controls]
  rw [hrecords]
  refine ⟨fun hop => ?_, fun hop => ?_⟩
  · rw [State.prog_of_read hop, recorderOf_readProg_records]
  · rw [State.prog_of_write hop, recorderOf_writeProg_records]

end Sys2Proof.Machine
end

section
/-! O58. However a READ_REG ends, its controls stand where R206 places them, so the premise EA-CONFORM
speaks of the bytes it took. -/
namespace Sys2Proof.Machine

/-- The abort tail takes no byte, so the control trace stays as it is. -/
theorem State.abortStep_controlTrace (s : State) :
    controlTrace s.abortStep.actions = controlTrace s.actions := by
  unfold State.abortStep
  split
  · rfl
  · exact controlTrace_append_other _ _ (by decide) (by decide)
  · exact controlTrace_append_other _ _ (by decide) (by decide)
  · exact controlTrace_append_other _ _ (by decide) (by decide)

/-- The controls of a read that ends, completed or aborted, stand where R206 places them. -/
theorem StepEffect.placed_of_end {s t : State} (he : StepEffect s t) (h : Inv s)
    (hb : s.busy = true) (hop : s.cmdOp = 2#2) (hr : s.nextInput.rst = false)
    (hend : t.busy = false) : controlTrace t.actions <+: readControls s.cmdLen := by
  by_cases ha : s.abt = .none
  · obtain ⟨i, r, hs, hadv, -, rfl⟩ := he.completes h hb ha hr hend
    have hplaced := hadv.placed hs hop
    rwa [hadv.cmdLen_eq] at hplaced
  · cases he with
    | reset hrst => simp [hr] at hrst
    | host _ _ he => simp [he.busy hb] at hend
    | idle _ _ hidle => simp [hb] at hidle
    | micro _ _ _ hnone => exact absurd hnone ha
    | abort =>
      rw [State.abortStep_controlTrace]
      exact h.placed hb hop

section
variable {n : Nat} {acts : List Action} {bytes : List Byte} {wire : List WireEvent}
  (h : EaConform n acts bytes wire)
include h

/-- Every byte the master sends is acknowledged. -/
theorem EaConform.ack_of_sent {b : Byte} {ack : Bool} (hm : .w b ack ∈ wire) : ack = true :=
  h.deviceAcks ack (List.mem_filterMap.2 ⟨_, hm, rfl⟩)

/-- A session that emitted a STOP ends on the wire with the STOP condition. -/
theorem EaConform.getLast?_of_stop (hstop : acts.any isStop = true) : wire.getLast? = some .p := by
  obtain ⟨late, -, hbus⟩ := h.carried
  have hlast : wire.getLast?.map WireEvent.bus = some .p := by
    rw [← List.getLast?_map, hbus, if_pos hstop, List.getLast?_concat]
  obtain ⟨e, he, hp⟩ := Option.map_eq_some_iff.1 hlast
  cases e with
  | p => exact he
  | s | sr | w | r => cases hp

end

/-- Settles O58: the placed controls open the premise's clause on the bytes taken, and the one STOP of
a session that ends is its last event. -/
theorem takenBytesAreAcknowledged : Obligations.TakenBytesAreAcknowledged := by
  intro s t wire h hb hop hr hst hend hw
  obtain ⟨hends, -⟩ := sessionEndsWithOneStop s t h hb hst
  obtain ⟨-, hcount, -⟩ := hends hr hend
  have hstop : t.actions.any isStop = true :=
    List.any_eq_true.2 (List.countP_pos_iff.1 (hcount ▸ Nat.one_pos))
  exact ⟨hw.readAcks ((step_effect hst).placed_of_end h hb hop hr hend),
    fun _ _ hm => hw.ack_of_sent hm, hw.getLast?_of_stop hstop⟩

end Sys2Proof.Machine
end

section
/-! O42. A state that meets the invariant answers every input with a next state. -/
namespace Sys2Proof.Machine

section
variable {s : State}

theorem step_of_reset (hr : s.nextInput.rst = true) : step s = .next (resetStep s.sample) := by
  simp [step, cycle, hr]

/-- In an abort the engine's step is one of the tail (R226). -/
theorem step_of_abort (ht : isEngineTurn s.nextInput) (hb : s.busy = true) (ha : s.abt ≠ .none) :
    step s = .next s.sample.abortStep := by
  rw [step_of_engineTurn ht]
  simp [engineStep, hb, ha]

/-- Idle, in an abort, and at the micro-op a running command stands at, the engine answers. -/
theorem Inv.engineTurn_answers (h : Inv s) (ht : isEngineTurn s.nextInput) :
    ∃ t, step s = .next t := by
  cases hb : s.busy with
  | false => exact ⟨_, idleStepChangesNothing s ht hb⟩
  | true =>
    by_cases ha : s.abt = .none
    · obtain ⟨i, hs⟩ := h.standsAt hb ha
      obtain ⟨r, hr, -⟩ := hs.steps ht
      exact ⟨r.retire, hr⟩
    · exact ⟨_, step_of_abort ht hb ha⟩

end

/-- Settles O42: a reset step and a host access answer in every state; an engine step, which alone can
stop, needs the invariant. -/
theorem invariantStateAlwaysSteps : Obligations.InvariantStateAlwaysSteps := by
  intro s h
  cases hr : s.nextInput.rst with
  | true => exact ⟨_, step_of_reset hr⟩
  | false =>
    cases hh : s.nextInput.host with
    | none => exact h.engineTurn_answers ⟨hr, hh⟩
    | some a => exact step_of_hostAccess hr hh ▸ hostAccess_answers a s.sample

end Sys2Proof.Machine
end

section
/-! O24, O28. Host accesses while a command runs: what they record, and what no host access changes. -/
namespace Sys2Proof.Machine

/-! ### What no host access changes (R222, R224, R232) -/

/-- LASTTO changes only where an abort begins. -/
theorem HostEffect.lastto {s t : State} (h : HostEffect s t) : t.lastto = s.lastto := by
  cases h <;> rfl

/-- While a command runs a host access records an error, clears flags or answers a read: the command
and DATA stay as they are. -/
theorem HostEffect.session_frame {s t : State} (h : HostEffect s t) (hb : s.busy = true) :
    t.cmd = s.cmd ∧ t.upc = s.upc ∧ t.polls = s.polls ∧ t.abt = s.abt ∧
      t.stopIssued = s.stopIssued ∧ t.idx = s.idx ∧ t.pay = s.pay ∧ t.actions = s.actions ∧
      t.records = s.records ∧ t.received = s.received ∧ t.mem = s.mem := by
  cases h with
  | commandRefused _ _ idle | accepted _ _ _ _ _ idle | stored _ _ _ idle => simp [hb] at idle
  | ignored | answered | malformedRead | refused | cleared => simp

/-- Settles O28: by what a host access can do. -/
theorem hostAccessFrame : Obligations.HostAccessFrame := by
  intro a s t hst
  have he := hostAccess_effect hst
  obtain ⟨hack, hpos, htimeout, -⟩ := he.flags
  have hsurr := hostAccess_surroundings hst
  simp only [State.surroundings, Prod.mk.injEq] at hsurr
  obtain ⟨hcfg, hinp, hscript, htick⟩ := hsurr
  refine ⟨hack, hpos, he.lastto, hcfg, hinp, he.port, hscript, htick,
    fun hf => Bool.eq_false_iff.2 (mt htimeout (Bool.eq_false_iff.1 hf)), fun hb => ?_⟩
  obtain ⟨hcmd, hupc, hpolls, habt, hstop, hidx, hpay, hact, hrec, hrecv, hmem⟩ := he.session_frame hb
  exact ⟨he.busy hb, hcmd, hupc, hpolls, habt, hstop, hidx, hpay, hact, hrec, hrecv,
    fun j => by rw [hmem]⟩

/-! ### What a busy engine refuses (R222) -/

/-- A write at DATA word `k` is admitted, and meets DATA. -/
theorem hostAccess_write_meets_data (s : State) {k : Nat} (hk : k < 64) (w : Word) :
    hostAccess (.write (0x100 + 4 * k) .w4 w) s = .next (hostDataWrite (0x100 + 4 * k) w s) := by
  have hw : 0x100 + 4 * k < 0x200 := by omega
  have hs : 0x100 + 4 * k ≠ 0x004 := by omega
  simp [hostAccess, hostWrite, inWindow, aligned4, hw, hs, Nat.add_mod]

theorem hostDataWrite_of_busy {s : State} (hb : s.busy = true) (off : Nat) (w : Word) :
    hostDataWrite off w s = s.hostError 5#4 := if_pos hb

/-- Settles O24: by the register the access meets. -/
theorem writesWhileBusyRefused : Obligations.WritesWhileBusyRefused := by
  intro s v hb
  refine ⟨issue_of_busy hb, fun k hk => ?_, ⟨s.statusWrite v, rfl, hb, rfl, rfl, rfl, rfl⟩,
    fun off hw h4 => ⟨_, hostAccess_read_admitted s hw h4⟩⟩
  rw [hostAccess_write_meets_data s hk, hostDataWrite_of_busy hb]
  rfl

end Sys2Proof.Machine
end

section
/-! O47, O48. A wait that is never answered: without a bound it hangs, with one the abort tail ends the
session. -/
namespace Sys2Proof.Machine

section
variable {s : State} {j : Input} {rest : List Input} (hs : s.script = j :: rest)
include hs

theorem State.nextInput_of_cons : s.nextInput = j := by
  simp [State.nextInput, hs]

theorem State.sample_of_cons :
    s.sample = { s with inp := j, script := rest, tick := s.tick + 1, port := ⟨0#4, 0#8⟩ } := by
  rw [State.sample, State.nextInput_of_cons hs, hs, List.tail_cons]

end

/-! ### The abort tail (R226, R227) -/

section
variable {s : State} {j : Input} {rest : List Input} (hb : s.busy = true)
  (hs : s.script = j :: rest) (hj : isEngineTurn j)
include hb hs hj

theorem step_of_abort_cons (ha : s.abt ≠ .none) : step s = .next
    { s with inp := j, script := rest, tick := s.tick + 1, port := ⟨0#4, 0#8⟩ }.abortStep := by
  rw [step_of_abort (State.nextInput_of_cons hs ▸ hj) hb ha, State.sample_of_cons hs]

/-- abort-STOP: the STOP the session has not emitted. -/
theorem step_of_abortStop (ha : s.abt = .stop) : step s = .next { s with
    stopIssued := true, abt := .posOff, inp := j, script := rest, tick := s.tick + 1,
    port := ⟨0x3#4, 0#8⟩, actions := s.actions ++ [⟨0x3#4, 0#8⟩] } := by
  rw [step_of_abort_cons hb hs hj (by simp [ha])]
  simp only [State.abortStep, ha]
  rfl

/-- abort-POS: POS_OFF. -/
theorem step_of_abortPos (ha : s.abt = .posOff) : step s = .next { s with
    pos := false, abt := .ackOn, inp := j, script := rest, tick := s.tick + 1,
    port := ⟨0xB#4, 0#8⟩, actions := s.actions ++ [⟨0xB#4, 0#8⟩] } := by
  rw [step_of_abort_cons hb hs hj (by simp [ha])]
  simp only [State.abortStep, ha]
  rfl

/-- abort-ACK: ACK_ON, and the session ends in the same step. -/
theorem step_of_abortAck (ha : s.abt = .ackOn) : step s = .next { s with
    ackEn := true, abt := .none, timeout := true, busy := false, done := true, upc := 0#10,
    inp := j, script := rest, tick := s.tick + 1,
    port := ⟨0x8#4, 0#8⟩, actions := s.actions ++ [⟨0x8#4, 0#8⟩] } := by
  rw [step_of_abort_cons hb hs hj (by simp [ha])]
  simp only [State.abortStep, ha]
  rfl

end

/-- From abort-POS the session ends in two engine steps. -/
theorem runSteps_of_abortPos {s : State} {y z : Input} {rest : List Input} (hb : s.busy = true)
    (ha : s.abt = .posOff) (hs : s.script = y :: z :: rest) (hy : isEngineTurn y)
    (hz : isEngineTurn z) : runSteps 2 s = .next { s with
      pos := false, ackEn := true, abt := .none, timeout := true, busy := false, done := true,
      upc := 0#10, inp := z, script := rest, tick := s.tick + 2, port := ⟨0x8#4, 0#8⟩,
      actions := s.actions ++ [⟨0xB#4, 0#8⟩, ⟨0x8#4, 0#8⟩] } := by
  refine (runSteps_succ (step_of_abortPos hb hs hy ha)).trans
    ((runSteps_succ (step_of_abortAck (by exact hb) (by rfl) hz (by rfl))).trans ?_)
  rw [runSteps, List.append_assoc]
  rfl

/-- Settles O47: from abort-STOP one step leads to abort-POS. -/
theorem abortTailEndsTheSession : Obligations.AbortTailEndsTheSession := by
  intro s hb
  refine ⟨fun x y z rest ha hs hx hy hz => ?_,
    fun y z rest ha hs hy hz => runSteps_of_abortPos hb ha hs hy hz⟩
  refine (runSteps_succ (step_of_abortStop hb hs hx ha)).trans
    ((runSteps_of_abortPos (by exact hb) (by rfl) (by rfl) hy hz).trans ?_)
  rw [List.append_assoc]
  rfl

/-! ### The hang (R228) -/

/-- Without a bound an unanswered poll takes its input and changes nothing else (R184, R228). -/
theorem step_of_unanswered {s : State} {c : Cond} (ht : isEngineTurn s.nextInput)
    (hc : Conds.level s.nextInput.conds c = false) (hb : s.busy = true) (ha : s.abt = .none)
    (hw : s.cfg.waitBound = none) (hi : s.prog[s.upc.toNat]? = some (.wait c)) :
    step s = .next s.sample := by
  have hfetch : s.fetch = some (encodeMicro (.wait c)) := by rw [State.fetch_eq, hi]; rfl
  have hexec : exec (.wait c) s.sample = .next s.sample := execWait_unbounded hc hw
  have hlt : s.upc.toNat < s.prog.length := (List.getElem?_eq_some_iff.1 hi).1
  have hleft : s.sample.retire = s.sample := if_neg fun ⟨_, _, hend⟩ => hlt.ne hend
  rw [step_of_fetch ht hb ha hfetch (decodeMicro_encodeMicro rfl) hexec, hleft]

/-- Settles O48: by induction on the polls, each of which leaves all but the ports and the model's own
fields as they are. -/
theorem unansweredWaitHangs : Obligations.UnansweredWaitHangs := by
  intro n
  induction n with
  | zero =>
    intro s c hb ha _ hi _ _
    exact ⟨s, rfl, hb, rfl, rfl, rfl, State.waitcond_at_wait hb ha hi, rfl, rfl⟩
  | succ n ih =>
    intro s c hb ha hw hi hlen hpolls
    obtain ⟨j, rest, hs⟩ := List.exists_cons_of_length_pos (Nat.zero_lt_of_lt hlen)
    rw [hs, List.take_succ_cons, List.forall_mem_cons, ← State.nextInput_of_cons hs] at hpolls
    obtain ⟨⟨ht, hc⟩, hrest⟩ := hpolls
    have htail : s.sample.script = rest := congrArg List.tail hs
    obtain ⟨t, hrun, hkept⟩ := ih s.sample c hb ha hw hi
      (by rw [htail]; simpa [hs] using hlen) (htail ▸ hrest)
    exact ⟨t, (runSteps_succ (step_of_unanswered ht hc hb ha hw hi)).trans hrun, hkept⟩

end Sys2Proof.Machine
end

section
/-! O52. The boot order's configuration write: the words `write_register` stores its payload in, and the
command word as shifted fields. -/
namespace Sys2Proof.Machine

/-- The DATA words of a payload, the last one padded with 0 (R112). -/
def payloadWords (bs : List Byte) : List Word :=
  (List.range ((bs.length + 3) / 4)).map (packWord bs)

theorem payloadWords_length (bs : List Byte) : (payloadWords bs).length = (bs.length + 3) / 4 := by
  simp [payloadWords]

theorem payloadWrites_eq_mapIdx (bs : List Byte) :
    payloadWrites bs = (payloadWords bs).mapIdx fun k w => .hw (0x100 + 4 * k) w :=
  List.ext_getElem (by simp [payloadWrites, payloadWords]) fun k _ _ => by
    simp [payloadWrites, payloadWords]

/-- Payload byte `j` is byte `j % 4` of word `j / 4` (R75). -/
theorem payloadWords_byte {bs : List Byte} {j : Nat} (hj : j < bs.length) :
    ∃ w, (payloadWords bs)[j / 4]? = some w ∧ w.extractLsb' (8 * (j % 4)) 8 = bs[j] := by
  have hk : j / 4 < (bs.length + 3) / 4 := by omega
  refine ⟨packWord bs (j / 4), by simp [payloadWords, hk], ?_⟩
  rw [packWord_byte bs _ (Nat.mod_lt j (by decide)), Nat.div_add_mod, List.getD_eq_getElem _ _ hj]

/-- A command word with REGADDR shifted into place over its low half. -/
theorem hostWord_eq_or (a : HalfWord) (n : Byte) (op : BitVec 2) :
    hostWord a n op = a.setWidth 32 <<< 16 ||| (n ++ (0#6 ++ op)).setWidth 32 := by
  calc hostWord a n op = a ++ (n ++ (0#6 ++ op)) := by rw [hostWord_eq]; exact BitVec.append_assoc
    _ = (a ++ (n ++ (0#6 ++ op))).setWidth 32 := (BitVec.setWidth_eq _).symm
    _ = _ := BitVec.setWidth_append_eq_shiftLeft_setWidth_or

theorem configTable_length : Config.configTable.toList.length = 106 :=
  Config.configTable.length_toList

/-- Settles O52: `write_register` at CFG_BASE and CONFIG_TABLE (R256), its parts written out. -/
theorem bootIssuesTheConfigurationWrite : Obligations.BootIssuesTheConfigurationWrite := by
  refine ⟨payloadWords Config.configTable.toList, ?_, ?_, fun j hj => ?_⟩
  · rw [payloadWords_length, configTable_length]
  · have hcmd : hostWord Config.cfgBase (BitVec.ofNat 8 Config.configTable.toList.length) 1#2 =
        (Config.cfgBase.setWidth 32 <<< 16) ||| 0x6A01#32 := by
      rw [configTable_length, hostWord_eq_or]
      rfl
    rw [bootStmts, writeRegister, hcmd, payloadWrites_eq_mapIdx]
    simp only [List.append_assoc, List.cons_append, List.nil_append]
  · obtain ⟨w, hw, hbyte⟩ := payloadWords_byte (configTable_length.symm ▸ hj)
    exact ⟨w, hw, hbyte.trans (Vector.getElem_toList _)⟩

end Sys2Proof.Machine
end

section
/-! O29, O30, O40. Reset: the state it leaves, and the host accesses in a reset step. -/
namespace Sys2Proof.Machine

/-! ### The state reset leaves (R250) -/

theorem State.applyReset_statusWord (s : State) : s.applyReset.statusWord = 0#32 := by
  obtain ⟨-, -, hreset⟩ := statusRegister
  have hsame : s.applyReset.statusWord = State.reset.statusWord := rfl
  exact hsame.trans hreset

theorem State.applyReset_ackctlWord (s : State) : s.applyReset.ackctlWord = 1#32 := by
  obtain ⟨-, -, -, hreset⟩ := ackctlAndInfoRegisters
  have hsame : s.applyReset.ackctlWord = State.reset.ackctlWord := rfl
  exact hsame.trans hreset

/-- After reset every DATA byte is a free draw (log 3). -/
theorem State.applyReset_dataByte (s : State) (d j : Nat) :
    s.applyReset.dataByte d j = Config.unwrittenByte d j := rfl

/-- Settles O29: beside the reset itself only a host read is answered. -/
theorem resetStepLeavesResetState : Obligations.ResetStepLeavesResetState := by
  intro s hr
  obtain ⟨w, hw⟩ := resetStep_eq_setRdata s.sample
  exact ⟨s.sample.applyReset.setRdata w, hw ▸ step_of_reset hr, rfl, rfl, rfl, rfl, rfl, rfl, rfl, rfl,
    rfl, rfl, rfl, rfl, rfl, rfl, rfl, rfl, rfl, rfl, s.sample.applyReset_statusWord,
    s.sample.applyReset_ackctlWord, State.phase_of_idle rfl, s.sample.applyReset_dataByte⟩

/-! ### Host accesses in a reset step (R252) -/

section
variable {s : State}

/-- A write is ignored. -/
theorem resetStep_of_write {off : Nat} {n : Width} {v : Word}
    (hh : s.nextInput.host = some (.write off n v)) :
    resetStep s.sample = s.sample.applyReset := by
  simp [resetStep, hh, hostAccessInReset]

/-- An admitted read answers with the register as reset leaves it. -/
theorem resetStep_of_read {off : Nat} (hh : s.nextInput.host = some (.read off .w4))
    (hw : off < 0x200) (h4 : off % 4 = 0) :
    resetStep s.sample = s.sample.applyReset.setRdata (s.sample.applyReset.regRead off) := by
  simp [resetStep, hh, hostAccessInReset, inWindow, aligned4, hw, h4]

theorem rdata_resetStep_of_read {off : Nat} (hh : s.nextInput.host = some (.read off .w4))
    (hw : off < 0x200) (h4 : off % 4 = 0) :
    (resetStep s.sample).rdata = s.sample.applyReset.regRead off :=
  congrArg State.rdata (resetStep_of_read hh hw h4)

end

/-- Settles O30: a write leaves the reset state, and each read is the register's of that state. -/
theorem hostAccessDuringReset : Obligations.HostAccessDuringReset := by
  intro s hr
  refine ⟨resetStep s.sample, step_of_reset hr, fun off n v hh => ?_,
    fun hh => rdata_resetStep_of_read hh (by decide) rfl,
    fun hh => (rdata_resetStep_of_read hh (by decide) rfl).trans (State.applyReset_statusWord _),
    fun hh => (rdata_resetStep_of_read hh (by decide) rfl).trans (State.applyReset_ackctlWord _),
    fun hh => rdata_resetStep_of_read hh (by decide) rfl,
    fun off hlo hhi h4 hh => ?_, fun k j hk hj hh => ?_⟩
  · rw [resetStep_of_write hh]
    exact ⟨rfl, rfl, rfl, rfl, rfl, rfl⟩
  · rw [rdata_resetStep_of_read hh (by omega) h4, State.regRead_reserved _ hlo hhi]
  · rw [resetStep_of_read hh (by omega) (by omega), State.setRdata_rdata, State.regRead_data,
      State.hostDataWord_byte _ _ hj]
    exact State.applyReset_dataByte _ _ _

/-! ### The invariant at reset (R37) -/

/-- Settles O40: at reset no command and no abort runs, nothing is recorded and no byte is listed. -/
theorem resetMeetsInvariant : Obligations.ResetMeetsInvariant :=
  show Inv State.reset from {
    memWf := Memory.reset_wf
    cfgWf := rfl
    idle := fun _ => ⟨rfl, rfl, rfl, rfl, rfl⟩
    command := nofun
    running := nofun
    progress := nofun
    counted := nofun
    controls := rfl
    oneStop := rfl
    pollBound := rfl
    abortTail := fun h => absurd rfl h
    abortStop := nofun
    abortPos := nofun
    abortAck := nofun
    causes := by decide
    lastWait := by decide
    faithful := fun _ => ⟨rfl, by decide, rfl⟩
    stored := nofun
    placed := nofun
    recorded := rfl }

end Sys2Proof.Machine
end
